-- ==== Sys2Proof/Word.lean ====
section
/-! DEFINITION. The word types of the block: bytes and 24-bit byte addresses (20_memory R70, R100). -/

namespace Sys2Proof

/-- One data byte. -/
abbrev Byte := BitVec 8

/-- A 24-bit byte address (R70). -/
abbrev Addr := BitVec 24

end Sys2Proof
end

