-- ==== Sys2Proof/Config.lean ====
section
/-! DEFINITION. The implementation parameters of 00_scope R7: those the spec gives a value for, and the two it leaves
OPEN (VOL_TABLE and DC_LEN), which are constants with no body (logs 7, 8, 18). -/

namespace Sys2Proof.Config

/-- `RAM_SIZE` (R7): 4 MiB. -/
def ramSize : Nat := 0x400000

/-- `YM_CLOCK` (R7), in Hz. -/
def ymClock : Nat := 2000000

/-- `MFP_CLOCK` (R7), in Hz. -/
def mfpClock : Nat := 2457600

/-- DESIGN CHOICE, unsafe (log 5): the `HOST_RATE` of `State.reset`. The spec makes it an argument of `startup`. -/
def hostRate : Nat := 44100

/-- The OPEN parameter `VOL_TABLE` (R7, I1), before the spec's constraints are imposed on it
(`Machine.volTable` imposes them). No body: a claim holds whatever it is (log 7, safe). -/
opaque volRaw : Nat → BitVec 16

/-- The OPEN parameter `DC_LEN` (R7, I2), less one. No body (log 8, safe). -/
opaque dcLenPred : Nat

/-- `DC_LEN` (R7): at least 1. -/
def dcLen : Nat := dcLenPred + 1

end Sys2Proof.Config
end

