-- ==== Sys2Proof/Syntax.lean ====
section
/-! DEFINITION. The syntax of the block: the five timers, the regions of the address space, the encoded form of an
operation, the byte transactions of the host, and `Instr`, one constructor per row of spec/opcode_table.json. -/

namespace Sys2Proof

/-- The five timers in the order of 00_scope R9 (index 0 to 4). -/
inductive TimerId where
  | A | B | C | D | GPI7
deriving DecidableEq, Repr

/-- The three voices of the sound chip (10_state R25), v = 0, 1, 2. -/
inductive Voice where
  | A | B | C
deriving DecidableEq, Repr

/-- The regions a byte address decodes to (20_memory R73). -/
inductive Region where
  | ram | psg | dma | mfp | openBus
deriving DecidableEq, Repr

/-- The three formats of 30_encoding R100, R102, R103. -/
inductive Format where
  | bus8 | psgreg | internal
deriving DecidableEq, Repr

/-- One encoded operation: its format, its key, and its operands. The key is the number the spec gives it (26 bits for
BUS8, 4 for PSGREG, 4 or 7 for INTERNAL), zero-extended. The spec gives the operands of the resets no encoding; `rate`
holds HOST_RATE - 1 and `clock` holds YM_CLOCK - 8, so that every value of either is a legal operand
(DESIGN CHOICE, log 2). -/
structure Packet where
  fmt : Format
  key : BitVec 26
  data : Byte := 0
  rate : Nat := 0
  clock : Nat := 0
deriving DecidableEq, Repr

/-- Why a packet is no operation, by name. -/
inductive DecodeError where
  /-- A BUS8 key with S = 1: halfwords are expanded before decoding (R100, R105). Safe. -/
  | halfwordKey
  /-- A PSGREG key above 15: the key is `PSG.sel`, four bits (R102). Safe. -/
  | noSuchPsgReg
  /-- An INTERNAL code that R103 refuses (0xA to 0xF), or a key of no row's length (log 4). Safe. -/
  | reservedOp
  /-- A timer operand 5, 6 or 7 (R103). Safe. -/
  | reservedTimer
deriving DecidableEq, Repr

/-- One byte transaction of the host processor (20_memory R74, R75). -/
inductive BusTx where
  | read (a : Addr)
  | write (a : Addr) (d : Byte)
deriving DecidableEq, Repr

/-- The operations of the block, one constructor per row of the opcode table. An operand `m` holds the address bits a
mirrored row leaves free (bits 7:2 of the two PSG ports, bits 7:1 of their odd shadow), `off` the offset of a window's
catch-all row, `a` an address, `d` the data byte of a write. -/
inductive Instr where
  | ramR8 (a : Addr)  -- RAM_R8 (R74)
  | ramW8 (a : Addr) (d : Byte)  -- RAM_W8 (R75)
  | psgSelW8 (m : BitVec 6) (d : Byte)  -- PSG_SEL_W8 (R213)
  | psgSelR8 (m : BitVec 6)  -- PSG_SEL_R8 (R214)
  | psgDataW8 (m : BitVec 6) (d : Byte)  -- PSG_DATA_W8 (R215)
  | psgDataR8 (m : BitVec 6)  -- PSG_DATA_R8 (R216)
  | psgOddW8 (m : BitVec 7) (d : Byte)  -- PSG_ODD_W8 (R217)
  | psgOddR8 (m : BitVec 7)  -- PSG_ODD_R8 (R218)
  | dmaCtrlR8  -- DMA_CTRL_R8 (R452)
  | dmaCtrlW8 (d : Byte)  -- DMA_CTRL_W8 (R453)
  | dmaStartHiR8  -- DMA_START_HI_R8 (R454)
  | dmaStartHiW8 (d : Byte)  -- DMA_START_HI_W8 (R455)
  | dmaStartMidR8  -- DMA_START_MID_R8 (R456)
  | dmaStartMidW8 (d : Byte)  -- DMA_START_MID_W8 (R457)
  | dmaStartLoR8  -- DMA_START_LO_R8 (R458)
  | dmaStartLoW8 (d : Byte)  -- DMA_START_LO_W8 (R459)
  | dmaCntHiR8  -- DMA_CNT_HI_R8 (R460)
  | dmaCntHiW8 (d : Byte)  -- DMA_CNT_HI_W8 (R461)
  | dmaCntMidR8  -- DMA_CNT_MID_R8 (R462)
  | dmaCntMidW8 (d : Byte)  -- DMA_CNT_MID_W8 (R463)
  | dmaCntLoR8  -- DMA_CNT_LO_R8 (R464)
  | dmaCntLoW8 (d : Byte)  -- DMA_CNT_LO_W8 (R465)
  | dmaEndHiR8  -- DMA_END_HI_R8 (R466)
  | dmaEndHiW8 (d : Byte)  -- DMA_END_HI_W8 (R467)
  | dmaEndMidR8  -- DMA_END_MID_R8 (R468)
  | dmaEndMidW8 (d : Byte)  -- DMA_END_MID_W8 (R469)
  | dmaEndLoR8  -- DMA_END_LO_R8 (R470)
  | dmaEndLoW8 (d : Byte)  -- DMA_END_LO_W8 (R471)
  | dmaModeR8  -- DMA_MODE_R8 (R472)
  | dmaModeW8 (d : Byte)  -- DMA_MODE_W8 (R473)
  | dmaMwDataHiR8  -- DMA_MW_DATA_HI_R8 (R474)
  | dmaMwDataHiW8 (d : Byte)  -- DMA_MW_DATA_HI_W8 (R475)
  | dmaMwDataLoR8  -- DMA_MW_DATA_LO_R8 (R476)
  | dmaMwDataLoW8 (d : Byte)  -- DMA_MW_DATA_LO_W8 (R477)
  | dmaMwMaskHiR8  -- DMA_MW_MASK_HI_R8 (R478)
  | dmaMwMaskHiW8 (d : Byte)  -- DMA_MW_MASK_HI_W8 (R479)
  | dmaMwMaskLoR8  -- DMA_MW_MASK_LO_R8 (R480)
  | dmaMwMaskLoW8 (d : Byte)  -- DMA_MW_MASK_LO_W8 (R481)
  | dmaUnusedR8 (off : Byte)  -- DMA_UNUSED_R8 (R482)
  | dmaUnusedW8 (off : Byte) (d : Byte)  -- DMA_UNUSED_W8 (R483)
  | mfpGpipR8  -- MFP_GPIP_R8 (R352)
  | mfpGpipW8 (d : Byte)  -- MFP_GPIP_W8 (R353)
  | mfpAerR8  -- MFP_AER_R8 (R354)
  | mfpAerW8 (d : Byte)  -- MFP_AER_W8 (R355)
  | mfpDdrR8  -- MFP_DDR_R8 (R356)
  | mfpDdrW8 (d : Byte)  -- MFP_DDR_W8 (R357)
  | mfpIeraR8  -- MFP_IERA_R8 (R358)
  | mfpIeraW8 (d : Byte)  -- MFP_IERA_W8 (R359)
  | mfpIerbR8  -- MFP_IERB_R8 (R360)
  | mfpIerbW8 (d : Byte)  -- MFP_IERB_W8 (R361)
  | mfpIpraR8  -- MFP_IPRA_R8 (R362)
  | mfpIpraW8 (d : Byte)  -- MFP_IPRA_W8 (R363)
  | mfpIprbR8  -- MFP_IPRB_R8 (R364)
  | mfpIprbW8 (d : Byte)  -- MFP_IPRB_W8 (R365)
  | mfpIsraR8  -- MFP_ISRA_R8 (R366)
  | mfpIsraW8 (d : Byte)  -- MFP_ISRA_W8 (R367)
  | mfpIsrbR8  -- MFP_ISRB_R8 (R368)
  | mfpIsrbW8 (d : Byte)  -- MFP_ISRB_W8 (R369)
  | mfpImraR8  -- MFP_IMRA_R8 (R370)
  | mfpImraW8 (d : Byte)  -- MFP_IMRA_W8 (R371)
  | mfpImrbR8  -- MFP_IMRB_R8 (R372)
  | mfpImrbW8 (d : Byte)  -- MFP_IMRB_W8 (R373)
  | mfpVrR8  -- MFP_VR_R8 (R374)
  | mfpVrW8 (d : Byte)  -- MFP_VR_W8 (R375)
  | mfpTacrR8  -- MFP_TACR_R8 (R376)
  | mfpTacrW8 (d : Byte)  -- MFP_TACR_W8 (R377)
  | mfpTbcrR8  -- MFP_TBCR_R8 (R378)
  | mfpTbcrW8 (d : Byte)  -- MFP_TBCR_W8 (R379)
  | mfpTcdcrR8  -- MFP_TCDCR_R8 (R380)
  | mfpTcdcrW8 (d : Byte)  -- MFP_TCDCR_W8 (R381)
  | mfpTadrR8  -- MFP_TADR_R8 (R382)
  | mfpTadrW8 (d : Byte)  -- MFP_TADR_W8 (R383)
  | mfpTbdrR8  -- MFP_TBDR_R8 (R384)
  | mfpTbdrW8 (d : Byte)  -- MFP_TBDR_W8 (R385)
  | mfpTcdrR8  -- MFP_TCDR_R8 (R386)
  | mfpTcdrW8 (d : Byte)  -- MFP_TCDR_W8 (R387)
  | mfpTddrR8  -- MFP_TDDR_R8 (R388)
  | mfpTddrW8 (d : Byte)  -- MFP_TDDR_W8 (R389)
  | mfpEvenR8 (off : Byte)  -- MFP_EVEN_R8 (R390)
  | mfpEvenW8 (off : Byte) (d : Byte)  -- MFP_EVEN_W8 (R391)
  | openR8 (a : Addr)  -- OPEN_R8 (R90)
  | openW8 (a : Addr) (d : Byte)  -- OPEN_W8 (R91)
  | psgWrR0 (d : Byte)  -- PSG_WR_R0 (R240)
  | psgWrR1 (d : Byte)  -- PSG_WR_R1 (R241)
  | psgWrR2 (d : Byte)  -- PSG_WR_R2 (R242)
  | psgWrR3 (d : Byte)  -- PSG_WR_R3 (R243)
  | psgWrR4 (d : Byte)  -- PSG_WR_R4 (R244)
  | psgWrR5 (d : Byte)  -- PSG_WR_R5 (R245)
  | psgWrR6 (d : Byte)  -- PSG_WR_R6 (R246)
  | psgWrR7 (d : Byte)  -- PSG_WR_R7 (R247)
  | psgWrR8 (d : Byte)  -- PSG_WR_R8 (R248)
  | psgWrR9 (d : Byte)  -- PSG_WR_R9 (R249)
  | psgWrR10 (d : Byte)  -- PSG_WR_R10 (R250)
  | psgWrR11 (d : Byte)  -- PSG_WR_R11 (R251)
  | psgWrR12 (d : Byte)  -- PSG_WR_R12 (R252)
  | psgWrR13 (d : Byte)  -- PSG_WR_R13 (R253)
  | psgWrR14 (d : Byte)  -- PSG_WR_R14 (R254)
  | psgWrR15 (d : Byte)  -- PSG_WR_R15 (R255)
  | sysReset (rate : Nat)  -- SYS_RESET (R700)
  | sysSample  -- SYS_SAMPLE (R501)
  | psgReset (rate : Nat) (clock : Nat)  -- PSG_RESET (R201)
  | psgTick  -- PSG_TICK (R220)
  | psgSample  -- PSG_SAMPLE (R260)
  | mfpReset (rate : Nat)  -- MFP_RESET (R301)
  | mfpTick (t : TimerId)  -- MFP_TICK (R330)
  | mfpSignal (t : TimerId)  -- MFP_SIGNAL (R340)
  | dmaReset (rate : Nat)  -- DMA_RESET (R401)
  | dmaSample  -- DMA_SAMPLE (R420)
deriving DecidableEq, Repr

end Sys2Proof
end

