-- ==== Sys2Proof/Machine/Address.lean ====
section
/-! DEFINITION. The address map of the bus: which region a byte address is in, its offset in a window, and which offsets
of a window have a row of their own (20_memory R73, R78; 10_state R30, R35). -/

namespace Sys2Proof.Machine

/-- First address of the sound chip's window (R78). -/
def psgBase : Nat := 0xFF8800

/-- First address of the DMA-PCM window (R78). -/
def dmaBase : Nat := 0xFF8900

/-- First address of the timer controller's window (R78). -/
def mfpBase : Nat := 0xFFFA00

/-- `region(a)` of R73: the first match wins. -/
def region (a : Addr) : Region :=
  if a.toNat < Config.ramSize then .ram
  else if psgBase ≤ a.toNat ∧ a.toNat ≤ psgBase + 0xFF then .psg
  else if dmaBase ≤ a.toNat ∧ a.toNat ≤ dmaBase + 0x25 then .dma
  else if mfpBase ≤ a.toNat ∧ a.toNat ≤ mfpBase + 0x25 then .mfp
  else .openBus

/-- The offset of an address in the window it lies in: all three windows begin at a multiple of 256. -/
def offsetOf (a : Addr) : Byte := a.extractLsb' 0 8

/-- The offsets of the DMA-PCM window that R35 names; every other one is unused (R482). -/
def dmaNamedOffset (off : Byte) : Bool :=
  decide (off.toNat ∈ [0x01, 0x03, 0x05, 0x07, 0x09, 0x0B, 0x0D, 0x0F, 0x11, 0x13, 0x21, 0x22, 0x23, 0x24, 0x25])

/-- The offsets of DMA_UNUSED (R482): in the window and not named. -/
def dmaUnusedOffset (off : Byte) : Bool :=
  decide (off.toNat ≤ 0x25) && !dmaNamedOffset off

/-- The offsets of MFP_EVEN (R390): even, in the window. -/
def mfpEvenOffset (off : Byte) : Bool :=
  decide (off.toNat ≤ 0x24) && !off.getLsbD 0

end Sys2Proof.Machine
end

