-- ==== Sys2Proof/WellFormed.lean ====
section
/-! DEFINITION. Which operations are well formed: the operand constraints the spec puts on a row (the address range of
30_encoding R101, the offsets of R390 and R482, the operand constraints of 00_scope R7). -/

namespace Sys2Proof

/-- The operand constraints of each row. A row with no constraint is always well formed. -/
def Instr.wf : Instr → Bool
  | .ramR8 a => Machine.region a == .ram
  | .ramW8 a _ => Machine.region a == .ram
  | .psgSelW8 _ _ => true
  | .psgSelR8 _ => true
  | .psgDataW8 _ _ => true
  | .psgDataR8 _ => true
  | .psgOddW8 _ _ => true
  | .psgOddR8 _ => true
  | .dmaCtrlR8 => true
  | .dmaCtrlW8 _ => true
  | .dmaStartHiR8 => true
  | .dmaStartHiW8 _ => true
  | .dmaStartMidR8 => true
  | .dmaStartMidW8 _ => true
  | .dmaStartLoR8 => true
  | .dmaStartLoW8 _ => true
  | .dmaCntHiR8 => true
  | .dmaCntHiW8 _ => true
  | .dmaCntMidR8 => true
  | .dmaCntMidW8 _ => true
  | .dmaCntLoR8 => true
  | .dmaCntLoW8 _ => true
  | .dmaEndHiR8 => true
  | .dmaEndHiW8 _ => true
  | .dmaEndMidR8 => true
  | .dmaEndMidW8 _ => true
  | .dmaEndLoR8 => true
  | .dmaEndLoW8 _ => true
  | .dmaModeR8 => true
  | .dmaModeW8 _ => true
  | .dmaMwDataHiR8 => true
  | .dmaMwDataHiW8 _ => true
  | .dmaMwDataLoR8 => true
  | .dmaMwDataLoW8 _ => true
  | .dmaMwMaskHiR8 => true
  | .dmaMwMaskHiW8 _ => true
  | .dmaMwMaskLoR8 => true
  | .dmaMwMaskLoW8 _ => true
  | .dmaUnusedR8 off => Machine.dmaUnusedOffset off
  | .dmaUnusedW8 off _ => Machine.dmaUnusedOffset off
  | .mfpGpipR8 => true
  | .mfpGpipW8 _ => true
  | .mfpAerR8 => true
  | .mfpAerW8 _ => true
  | .mfpDdrR8 => true
  | .mfpDdrW8 _ => true
  | .mfpIeraR8 => true
  | .mfpIeraW8 _ => true
  | .mfpIerbR8 => true
  | .mfpIerbW8 _ => true
  | .mfpIpraR8 => true
  | .mfpIpraW8 _ => true
  | .mfpIprbR8 => true
  | .mfpIprbW8 _ => true
  | .mfpIsraR8 => true
  | .mfpIsraW8 _ => true
  | .mfpIsrbR8 => true
  | .mfpIsrbW8 _ => true
  | .mfpImraR8 => true
  | .mfpImraW8 _ => true
  | .mfpImrbR8 => true
  | .mfpImrbW8 _ => true
  | .mfpVrR8 => true
  | .mfpVrW8 _ => true
  | .mfpTacrR8 => true
  | .mfpTacrW8 _ => true
  | .mfpTbcrR8 => true
  | .mfpTbcrW8 _ => true
  | .mfpTcdcrR8 => true
  | .mfpTcdcrW8 _ => true
  | .mfpTadrR8 => true
  | .mfpTadrW8 _ => true
  | .mfpTbdrR8 => true
  | .mfpTbdrW8 _ => true
  | .mfpTcdrR8 => true
  | .mfpTcdrW8 _ => true
  | .mfpTddrR8 => true
  | .mfpTddrW8 _ => true
  | .mfpEvenR8 off => Machine.mfpEvenOffset off
  | .mfpEvenW8 off _ => Machine.mfpEvenOffset off
  | .openR8 a => Machine.region a == .openBus
  | .openW8 a _ => Machine.region a == .openBus
  | .psgWrR0 _ => true
  | .psgWrR1 _ => true
  | .psgWrR2 _ => true
  | .psgWrR3 _ => true
  | .psgWrR4 _ => true
  | .psgWrR5 _ => true
  | .psgWrR6 _ => true
  | .psgWrR7 _ => true
  | .psgWrR8 _ => true
  | .psgWrR9 _ => true
  | .psgWrR10 _ => true
  | .psgWrR11 _ => true
  | .psgWrR12 _ => true
  | .psgWrR13 _ => true
  | .psgWrR14 _ => true
  | .psgWrR15 _ => true
  | .sysReset rate => decide (1 ≤ rate)
  | .sysSample => true
  | .psgReset rate clock => decide (1 ≤ rate) && decide (8 ≤ clock)
  | .psgTick => true
  | .psgSample => true
  | .mfpReset rate => decide (1 ≤ rate)
  | .mfpTick _ => true
  | .mfpSignal _ => true
  | .dmaReset rate => decide (1 ≤ rate)
  | .dmaSample => true

end Sys2Proof
end

