-- ==== Sys2Proof/Decode.lean ====
section
/-! DEFINITION. The decoder of the three formats (30_encoding R100 to R103), total on packets and rejecting by name; then
the encoder, written from the same tables; then the host's view of a table word. -/

namespace Sys2Proof

/-- The sound chip's rows: offset bit 0 is the odd shadow, else bit 1 selects the port (40_psg R211, R212). -/
def psgRow (w : Bool) (a : Addr) (d : Byte) : Instr :=
  if a.getLsbD 0 then
    bif w then .psgOddW8 (a.extractLsb' 1 7) d else .psgOddR8 (a.extractLsb' 1 7)
  else if a.getLsbD 1 then
    bif w then .psgDataW8 (a.extractLsb' 2 6) d else .psgDataR8 (a.extractLsb' 2 6)
  else
    bif w then .psgSelW8 (a.extractLsb' 2 6) d else .psgSelR8 (a.extractLsb' 2 6)

/-- The DMA-PCM rows by offset (10_state R35, 42_dma_pcm R450, R451). -/
def dmaRow (w : Bool) (off d : Byte) : Instr :=
  match off.toNat with
  | 0x01 => bif w then .dmaCtrlW8 d else .dmaCtrlR8
  | 0x03 => bif w then .dmaStartHiW8 d else .dmaStartHiR8
  | 0x05 => bif w then .dmaStartMidW8 d else .dmaStartMidR8
  | 0x07 => bif w then .dmaStartLoW8 d else .dmaStartLoR8
  | 0x09 => bif w then .dmaCntHiW8 d else .dmaCntHiR8
  | 0x0B => bif w then .dmaCntMidW8 d else .dmaCntMidR8
  | 0x0D => bif w then .dmaCntLoW8 d else .dmaCntLoR8
  | 0x0F => bif w then .dmaEndHiW8 d else .dmaEndHiR8
  | 0x11 => bif w then .dmaEndMidW8 d else .dmaEndMidR8
  | 0x13 => bif w then .dmaEndLoW8 d else .dmaEndLoR8
  | 0x21 => bif w then .dmaModeW8 d else .dmaModeR8
  | 0x22 => bif w then .dmaMwDataHiW8 d else .dmaMwDataHiR8
  | 0x23 => bif w then .dmaMwDataLoW8 d else .dmaMwDataLoR8
  | 0x24 => bif w then .dmaMwMaskHiW8 d else .dmaMwMaskHiR8
  | 0x25 => bif w then .dmaMwMaskLoW8 d else .dmaMwMaskLoR8
  | _ => bif w then .dmaUnusedW8 off d else .dmaUnusedR8 off

/-- The timer controller's rows by offset (10_state R30, 41_mfp_timers R350, R351). -/
def mfpRow (w : Bool) (off d : Byte) : Instr :=
  match off.toNat with
  | 0x01 => bif w then .mfpGpipW8 d else .mfpGpipR8
  | 0x03 => bif w then .mfpAerW8 d else .mfpAerR8
  | 0x05 => bif w then .mfpDdrW8 d else .mfpDdrR8
  | 0x07 => bif w then .mfpIeraW8 d else .mfpIeraR8
  | 0x09 => bif w then .mfpIerbW8 d else .mfpIerbR8
  | 0x0B => bif w then .mfpIpraW8 d else .mfpIpraR8
  | 0x0D => bif w then .mfpIprbW8 d else .mfpIprbR8
  | 0x0F => bif w then .mfpIsraW8 d else .mfpIsraR8
  | 0x11 => bif w then .mfpIsrbW8 d else .mfpIsrbR8
  | 0x13 => bif w then .mfpImraW8 d else .mfpImraR8
  | 0x15 => bif w then .mfpImrbW8 d else .mfpImrbR8
  | 0x17 => bif w then .mfpVrW8 d else .mfpVrR8
  | 0x19 => bif w then .mfpTacrW8 d else .mfpTacrR8
  | 0x1B => bif w then .mfpTbcrW8 d else .mfpTbcrR8
  | 0x1D => bif w then .mfpTcdcrW8 d else .mfpTcdcrR8
  | 0x1F => bif w then .mfpTadrW8 d else .mfpTadrR8
  | 0x21 => bif w then .mfpTbdrW8 d else .mfpTbdrR8
  | 0x23 => bif w then .mfpTcdrW8 d else .mfpTcdrR8
  | 0x25 => bif w then .mfpTddrW8 d else .mfpTddrR8
  | _ => bif w then .mfpEvenW8 off d else .mfpEvenR8 off

/-- A BUS8 key `W, S, A` with its data byte (R100, R101). The rows are reached through the region of the address, which
is what the table's order implements (R73, R106). -/
def decodeBus8 (k : BitVec 26) (d : Byte) : Except DecodeError Instr :=
  let a : Addr := k.extractLsb' 0 24
  let w : Bool := k.getLsbD 25
  if k.getLsbD 24 then .error .halfwordKey
  else .ok <|
    match Machine.region a with
    | .ram => bif w then .ramW8 a d else .ramR8 a
    | .psg => psgRow w a d
    | .dma => dmaRow w (Machine.offsetOf a) d
    | .mfp => mfpRow w (Machine.offsetOf a) d
    | .openBus => bif w then .openW8 a d else .openR8 a

/-- A PSGREG key: the value of `PSG.sel` (R102). -/
def decodePsgReg (k : BitVec 26) (d : Byte) : Except DecodeError Instr :=
  match k.toNat with
  | 0 => .ok (.psgWrR0 d)
  | 1 => .ok (.psgWrR1 d)
  | 2 => .ok (.psgWrR2 d)
  | 3 => .ok (.psgWrR3 d)
  | 4 => .ok (.psgWrR4 d)
  | 5 => .ok (.psgWrR5 d)
  | 6 => .ok (.psgWrR6 d)
  | 7 => .ok (.psgWrR7 d)
  | 8 => .ok (.psgWrR8 d)
  | 9 => .ok (.psgWrR9 d)
  | 10 => .ok (.psgWrR10 d)
  | 11 => .ok (.psgWrR11 d)
  | 12 => .ok (.psgWrR12 d)
  | 13 => .ok (.psgWrR13 d)
  | 14 => .ok (.psgWrR14 d)
  | 15 => .ok (.psgWrR15 d)
  | _ => .error .noSuchPsgReg

/-- The timer operand `T` (R103): 5 to 7 are no timer. -/
def decodeTimer (t : Nat) : Except DecodeError TimerId :=
  match t with
  | 0 => .ok .A
  | 1 => .ok .B
  | 2 => .ok .C
  | 3 => .ok .D
  | 4 => .ok .GPI7
  | _ => .error .reservedTimer

/-- An INTERNAL key (R103): a 4-bit code, or for the two timer operations the 7 bits `OP, T`. A 7-bit key whose code has
no timer operand is no row's pattern (DEDUCED, log 4). -/
def decodeInternal (k : BitVec 26) (rate clock : Nat) : Except DecodeError Instr :=
  match k.toNat with
  | 0x0 => .ok (.sysReset (rate + 1))
  | 0x1 => .ok .sysSample
  | 0x2 => .ok (.psgReset (rate + 1) (clock + 8))
  | 0x3 => .ok .psgTick
  | 0x4 => .ok .psgSample
  | 0x5 => .ok (.mfpReset (rate + 1))
  | 0x8 => .ok (.dmaReset (rate + 1))
  | 0x9 => .ok .dmaSample
  | n =>
    if n / 8 = 0x6 then (decodeTimer (n % 8)).map .mfpTick
    else if n / 8 = 0x7 then (decodeTimer (n % 8)).map .mfpSignal
    else .error .reservedOp

/-- The decoder: total on packets. Operands a row does not have are not read. -/
def decode (p : Packet) : Except DecodeError Instr :=
  match p.fmt with
  | .bus8 => decodeBus8 p.key p.data
  | .psgreg => decodePsgReg p.key p.data
  | .internal => decodeInternal p.key p.rate p.clock

/-! The encoder, from the same tables. -/

/-- The key of a byte read at an address: W = 0, S = 0 (R100). -/
def readAt (a : Addr) : Packet :=
  ⟨.bus8, 0b00#2 ++ a, 0, 0, 0⟩

/-- The key of a byte write at an address: W = 1, S = 0 (R100). -/
def writeAt (a : Addr) (d : Byte) : Packet :=
  ⟨.bus8, 0b10#2 ++ a, d, 0, 0⟩

/-- A PSGREG packet (R102). -/
def psgRegPacket (n : Nat) (d : Byte) : Packet :=
  ⟨.psgreg, BitVec.ofNat 26 n, d, 0, 0⟩

/-- An INTERNAL packet (R103). -/
def internalPacket (n rate clock : Nat) : Packet :=
  ⟨.internal, BitVec.ofNat 26 n, 0, rate, clock⟩

/-- An address of the sound chip's window from its offset (R78). -/
def psgAddr (off : Byte) : Addr := 0xFF88#16 ++ off

/-- An address of the DMA-PCM window from its offset (R78). -/
def dmaAddr (off : Byte) : Addr := 0xFF89#16 ++ off

/-- An address of the timer controller's window from its offset (R78). -/
def mfpAddr (off : Byte) : Addr := 0xFFFA#16 ++ off

/-- The index of a timer (00_scope R9). -/
def timerIndex : TimerId → Nat
  | .A => 0
  | .B => 1
  | .C => 2
  | .D => 3
  | .GPI7 => 4

/-- The encoder: the packet of an operation. -/
def encode : Instr → Packet
  | .ramR8 a => readAt a
  | .ramW8 a d => writeAt a d
  | .psgSelW8 m d => writeAt (psgAddr (m ++ 0b00#2)) d
  | .psgSelR8 m => readAt (psgAddr (m ++ 0b00#2))
  | .psgDataW8 m d => writeAt (psgAddr (m ++ 0b10#2)) d
  | .psgDataR8 m => readAt (psgAddr (m ++ 0b10#2))
  | .psgOddW8 m d => writeAt (psgAddr (m ++ 1#1)) d
  | .psgOddR8 m => readAt (psgAddr (m ++ 1#1))
  | .dmaCtrlR8 => readAt (dmaAddr 0x01)
  | .dmaCtrlW8 d => writeAt (dmaAddr 0x01) d
  | .dmaStartHiR8 => readAt (dmaAddr 0x03)
  | .dmaStartHiW8 d => writeAt (dmaAddr 0x03) d
  | .dmaStartMidR8 => readAt (dmaAddr 0x05)
  | .dmaStartMidW8 d => writeAt (dmaAddr 0x05) d
  | .dmaStartLoR8 => readAt (dmaAddr 0x07)
  | .dmaStartLoW8 d => writeAt (dmaAddr 0x07) d
  | .dmaCntHiR8 => readAt (dmaAddr 0x09)
  | .dmaCntHiW8 d => writeAt (dmaAddr 0x09) d
  | .dmaCntMidR8 => readAt (dmaAddr 0x0B)
  | .dmaCntMidW8 d => writeAt (dmaAddr 0x0B) d
  | .dmaCntLoR8 => readAt (dmaAddr 0x0D)
  | .dmaCntLoW8 d => writeAt (dmaAddr 0x0D) d
  | .dmaEndHiR8 => readAt (dmaAddr 0x0F)
  | .dmaEndHiW8 d => writeAt (dmaAddr 0x0F) d
  | .dmaEndMidR8 => readAt (dmaAddr 0x11)
  | .dmaEndMidW8 d => writeAt (dmaAddr 0x11) d
  | .dmaEndLoR8 => readAt (dmaAddr 0x13)
  | .dmaEndLoW8 d => writeAt (dmaAddr 0x13) d
  | .dmaModeR8 => readAt (dmaAddr 0x21)
  | .dmaModeW8 d => writeAt (dmaAddr 0x21) d
  | .dmaMwDataHiR8 => readAt (dmaAddr 0x22)
  | .dmaMwDataHiW8 d => writeAt (dmaAddr 0x22) d
  | .dmaMwDataLoR8 => readAt (dmaAddr 0x23)
  | .dmaMwDataLoW8 d => writeAt (dmaAddr 0x23) d
  | .dmaMwMaskHiR8 => readAt (dmaAddr 0x24)
  | .dmaMwMaskHiW8 d => writeAt (dmaAddr 0x24) d
  | .dmaMwMaskLoR8 => readAt (dmaAddr 0x25)
  | .dmaMwMaskLoW8 d => writeAt (dmaAddr 0x25) d
  | .dmaUnusedR8 off => readAt (dmaAddr off)
  | .dmaUnusedW8 off d => writeAt (dmaAddr off) d
  | .mfpGpipR8 => readAt (mfpAddr 0x01)
  | .mfpGpipW8 d => writeAt (mfpAddr 0x01) d
  | .mfpAerR8 => readAt (mfpAddr 0x03)
  | .mfpAerW8 d => writeAt (mfpAddr 0x03) d
  | .mfpDdrR8 => readAt (mfpAddr 0x05)
  | .mfpDdrW8 d => writeAt (mfpAddr 0x05) d
  | .mfpIeraR8 => readAt (mfpAddr 0x07)
  | .mfpIeraW8 d => writeAt (mfpAddr 0x07) d
  | .mfpIerbR8 => readAt (mfpAddr 0x09)
  | .mfpIerbW8 d => writeAt (mfpAddr 0x09) d
  | .mfpIpraR8 => readAt (mfpAddr 0x0B)
  | .mfpIpraW8 d => writeAt (mfpAddr 0x0B) d
  | .mfpIprbR8 => readAt (mfpAddr 0x0D)
  | .mfpIprbW8 d => writeAt (mfpAddr 0x0D) d
  | .mfpIsraR8 => readAt (mfpAddr 0x0F)
  | .mfpIsraW8 d => writeAt (mfpAddr 0x0F) d
  | .mfpIsrbR8 => readAt (mfpAddr 0x11)
  | .mfpIsrbW8 d => writeAt (mfpAddr 0x11) d
  | .mfpImraR8 => readAt (mfpAddr 0x13)
  | .mfpImraW8 d => writeAt (mfpAddr 0x13) d
  | .mfpImrbR8 => readAt (mfpAddr 0x15)
  | .mfpImrbW8 d => writeAt (mfpAddr 0x15) d
  | .mfpVrR8 => readAt (mfpAddr 0x17)
  | .mfpVrW8 d => writeAt (mfpAddr 0x17) d
  | .mfpTacrR8 => readAt (mfpAddr 0x19)
  | .mfpTacrW8 d => writeAt (mfpAddr 0x19) d
  | .mfpTbcrR8 => readAt (mfpAddr 0x1B)
  | .mfpTbcrW8 d => writeAt (mfpAddr 0x1B) d
  | .mfpTcdcrR8 => readAt (mfpAddr 0x1D)
  | .mfpTcdcrW8 d => writeAt (mfpAddr 0x1D) d
  | .mfpTadrR8 => readAt (mfpAddr 0x1F)
  | .mfpTadrW8 d => writeAt (mfpAddr 0x1F) d
  | .mfpTbdrR8 => readAt (mfpAddr 0x21)
  | .mfpTbdrW8 d => writeAt (mfpAddr 0x21) d
  | .mfpTcdrR8 => readAt (mfpAddr 0x23)
  | .mfpTcdrW8 d => writeAt (mfpAddr 0x23) d
  | .mfpTddrR8 => readAt (mfpAddr 0x25)
  | .mfpTddrW8 d => writeAt (mfpAddr 0x25) d
  | .mfpEvenR8 off => readAt (mfpAddr off)
  | .mfpEvenW8 off d => writeAt (mfpAddr off) d
  | .openR8 a => readAt a
  | .openW8 a d => writeAt a d
  | .psgWrR0 d => psgRegPacket 0 d
  | .psgWrR1 d => psgRegPacket 1 d
  | .psgWrR2 d => psgRegPacket 2 d
  | .psgWrR3 d => psgRegPacket 3 d
  | .psgWrR4 d => psgRegPacket 4 d
  | .psgWrR5 d => psgRegPacket 5 d
  | .psgWrR6 d => psgRegPacket 6 d
  | .psgWrR7 d => psgRegPacket 7 d
  | .psgWrR8 d => psgRegPacket 8 d
  | .psgWrR9 d => psgRegPacket 9 d
  | .psgWrR10 d => psgRegPacket 10 d
  | .psgWrR11 d => psgRegPacket 11 d
  | .psgWrR12 d => psgRegPacket 12 d
  | .psgWrR13 d => psgRegPacket 13 d
  | .psgWrR14 d => psgRegPacket 14 d
  | .psgWrR15 d => psgRegPacket 15 d
  | .sysReset rate => internalPacket 0x0 (rate - 1) 0
  | .sysSample => internalPacket 0x1 0 0
  | .psgReset rate clock => internalPacket 0x2 (rate - 1) (clock - 8)
  | .psgTick => internalPacket 0x3 0 0
  | .psgSample => internalPacket 0x4 0 0
  | .mfpReset rate => internalPacket 0x5 (rate - 1) 0
  | .mfpTick t => internalPacket (0x30 + timerIndex t) 0 0
  | .mfpSignal t => internalPacket (0x38 + timerIndex t) 0 0
  | .dmaReset rate => internalPacket 0x8 (rate - 1) 0
  | .dmaSample => internalPacket 0x9 0 0

/-! The table's words. -/

/-- The packet whose bits are `w`, of which the table gives `nbits` (whole bytes). A BUS8 row has 26 key bits, so more
than one byte; its data byte would be bits 39:32. The one-byte rows are INTERNAL and PSGREG, whose keys overlap: an
INTERNAL operation where there is one, else the PSGREG row (DESIGN CHOICE, log 3). -/
def packetOfBits (nbits w : Nat) : Packet :=
  if 8 < nbits then ⟨.bus8, BitVec.ofNat 26 w, BitVec.ofNat 8 (w >>> 32), 0, 0⟩
  else
    match decodeInternal (BitVec.ofNat 26 (w % 256)) 0 0 with
    | .ok _ => internalPacket (w % 256) 0 0
    | .error _ => psgRegPacket (w % 256) 0

/-- The instruction the decoder reads from a word of the opcode table. -/
def decodeTableWord (nbits w : Nat) : Option Instr :=
  match decode (packetOfBits nbits w) with
  | .ok i => some i
  | .error _ => none

end Sys2Proof
end

