-- ==== Sys2Proof/Machine/State.lean ====
section
/-! DEFINITION. The state of the block as plain data (10_state, 70_reset_and_hazards R701), the requests the environment
can issue, the reasons a step can stop, and the state right after reset. -/

namespace Sys2Proof.Machine

/-- One thing for each of the three voices. -/
structure Three (α : Type) where
  a : α
  b : α
  c : α
deriving DecidableEq, Repr

/-- One thing for each of the five timers, in the order of R9. -/
structure Five (α : Type) where
  a : α
  b : α
  c : α
  d : α
  gpi7 : α
deriving DecidableEq, Repr

/-! Why a step stops. -/

/-- The fatal conditions of the host processor (60_exceptions R601, 93 I12). They are outside the block. -/
inductive HostFatal where
  | illegalInstruction
  | unimplementedCall
  | resetInstruction
deriving DecidableEq, Repr

/-- The faults of the machine. No operation of the block faults (R600). -/
inductive Fault where
  /-- Raised by the step that receives a fatal condition of the host: the session is aborted (R601, I12). Safe. -/
  | sessionAborted (why : HostFatal)
deriving DecidableEq, Repr

/-- The inputs to which the spec gives no step. -/
inductive Refusal where
  /-- An operation with no meaning yet: raised by `exec`'s rejected arms only. Safe. -/
  | notModelled (mnemonic : String)
  /-- A packet that is no operation: raised by `step` (R103, R107, I8, I9). Safe. -/
  | undecodable (why : DecodeError)
  /-- HOST_RATE = 0 in a reset: raised by the four resets (R7, I10). Safe. -/
  | hostRateZero
  /-- A chip clock below 8: raised by PSG_RESET (R7, I10). Safe. -/
  | chipClockTooLow
  /-- SPT = 0 in the host arguments: raised by `step` (R7). Safe. -/
  | samplesPerTickZero
  /-- Any step after an upload was refused: raised by `step` (R601, I11). Safe. -/
  | sessionInvalid
deriving DecidableEq, Repr

/-! The sound chip. -/

/-- A tone channel (R25). -/
structure Tone where
  cnt : Nat
  edge : Bool
deriving DecidableEq, Repr

/-- The sound chip's state (10_state R22 to R29). `dcBuf` lists the non-zero slots of the ring buffer in rising order. -/
structure Psg where
  regs : Vector Byte 16
  sel : BitVec 4
  tones : Three Tone
  noiseHalf : Bool
  noiseCnt : Nat
  lfsr : BitVec 17
  noiseBit : Bool
  envCnt : Nat
  envPos : Nat
  resAcc : Nat
  clk8 : Nat
  host : Nat
  dcBuf : List (Nat × Nat)
  dcSum : Nat
  dcIdx : Nat
deriving DecidableEq, Repr

/-! The timer controller. -/

/-- The stored state of one timer (R33). -/
structure Timer where
  reload : Byte
  counter : Nat
  acc : Nat
  event : Bool
deriving DecidableEq, Repr

/-- The timer controller's state (10_state R30, R33). `host` is the HOST_RATE that R301 retains. -/
structure Mfp where
  gpip : Byte
  aer : Byte
  ddr : Byte
  iera : Byte
  ierb : Byte
  imra : Byte
  imrb : Byte
  vr : Byte
  tacr : Byte
  tbcr : Byte
  tcdcr : Byte
  timers : Five Timer
  host : Nat
deriving DecidableEq, Repr

/-! The DMA-PCM channel and the microwire. -/

/-- The DMA-PCM channel's state (10_state R35 to R37). `host` is the HOST_RATE that R401 retains. -/
structure Dma where
  ctrl : Byte
  startHi : Byte
  startMid : Byte
  startLo : Byte
  endHi : Byte
  endMid : Byte
  endLo : Byte
  mode : Byte
  mwDataHi : Byte
  mwDataLo : Byte
  mwMaskHi : Byte
  mwMaskLo : Byte
  cur : BitVec 24
  endp : BitVec 24
  acc : Nat
  avgAcc : Int
  parity : Bool
  level : Int
  mwPending : Nat
  masterVol : Nat
  host : Nat
deriving DecidableEq, Repr

/-! The system, the host arguments and the environment. -/

/-- The per-sample step's state (10_state R21), and whether the session is invalid (60_exceptions R601). -/
structure Sys where
  n : Nat
  vis : BitVec 32
  invalid : Bool
deriving DecidableEq, Repr

/-- The host arguments of 00_scope R7, set per subsong. -/
structure Song where
  spt : Nat
  playerEntry : Addr
  tickCount : Nat
  tickBudget : Nat
  irqBudget : Nat
deriving DecidableEq, Repr

/-- What the host is dispatched for (43_sample_step R503 to R505, R508). -/
inductive DispatchKind where
  | player
  | irq (t : TimerId)
  | call
deriving DecidableEq, Repr

/-- What the host processor does in one dispatch (R503): the transactions of each of its steps in order, and whether it
reaches its return after the last of them (log 10). -/
structure HostRun where
  steps : List (List BusTx)
  returns : Bool
deriving DecidableEq, Repr

/-- A dispatch as it was made (R503): what for, where to, with which argument and budget, the bytes the host read in
order, and whether it returned within the budget. -/
structure DispatchRec where
  kind : DispatchKind
  target : Addr
  arg : Nat
  budget : Nat
  reads : List Byte
  returned : Bool
deriving DecidableEq, Repr

/-- The pseudo-instructions of 30_encoding R105 and the script's PSGW (R109). -/
inductive Pseudo where
  | r16 (a : Addr)
  | w16 (a : Addr) (v : BitVec 16)
  | r32 (a : Addr)
  | w32 (a : Addr) (v : BitVec 32)
  | psgw (reg : Byte) (d : Byte)
deriving DecidableEq, Repr

/-- What the environment can ask for (30_encoding, 43_sample_step R506 to R509, 60_exceptions R601). -/
inductive Request where
  /-- One encoded operation. -/
  | op (p : Packet)
  /-- One pseudo-instruction (R105). -/
  | pseudo (p : Pseudo)
  /-- `upload(blob, address, size)`, `size` the blob's length (R507). -/
  | upload (blob : List Byte) (address : Nat)
  /-- `call_and_wait(entry_address, argument, timeout_in_ticks)` (R508). -/
  | callAndWait (entry : Addr) (arg : Nat) (timeout : Nat)
  /-- `render(sample_count, output_buffer, optional_visualization_buffer)` (R509). -/
  | render (count : Nat) (vis : Bool)
  /-- The host arguments of a subsong (R7, R710). -/
  | arguments (song : Song)
  /-- What the host processor will do in the dispatches after those already planned (R503). -/
  | oracle (runs : List HostRun)
  /-- A fatal condition of the host processor (R601). -/
  | fatal (why : HostFatal)
deriving DecidableEq, Repr

/-- The environment: the requests not run yet, the host's coming actions, the dispatches the last operation made, and
the buffers of the last render (logs 1, 10, 23). The model's own state. -/
structure Env where
  queue : List Request
  runs : List HostRun
  dispatched : List DispatchRec
  outBuf : List Int
  visBuf : List (BitVec 32)
deriving DecidableEq, Repr

/-- A value an operation returns to its caller. -/
inductive Result where
  | nothing
  | byte (v : Byte)
  | half (v : BitVec 16)
  | long (v : BitVec 32)
  | edges (v : BitVec 15)
  | fired (v : Bool)
  | sample (v : Int)
  | success (v : Bool)
  | loops (v : Nat)
deriving DecidableEq, Repr

/-- The machine. `ram` lists the non-zero cells of `BUS.ram` in rising order (R38); `out` is the value most recently
returned by an operation that returns one (the model's own field, log 9). -/
structure State where
  ram : List Host.Cell
  psg : Psg
  mfp : Mfp
  dma : Dma
  sys : Sys
  song : Song
  env : Env
  out : Result
deriving DecidableEq, Repr

/-- The sound chip right after PSG_RESET(host_rate, chip_clock) (R201). -/
def Psg.fresh (host clock : Nat) : Psg where
  regs := Vector.replicate 16 0
  sel := 0
  tones := ⟨⟨0, false⟩, ⟨0, false⟩, ⟨0, false⟩⟩
  noiseHalf := false
  noiseCnt := 0
  lfsr := 1
  noiseBit := false
  envCnt := 0
  envPos := 0
  resAcc := 0
  clk8 := clock / 8
  host := host
  dcBuf := []
  dcSum := 0
  dcIdx := 0

/-- The timer controller right after MFP_RESET(host_rate) (R301). -/
def Mfp.fresh (host : Nat) : Mfp where
  gpip := 0
  aer := 0
  ddr := 0
  iera := 0
  ierb := 0
  imra := 0
  imrb := 0
  vr := 0
  tacr := 0
  tbcr := 0
  tcdcr := 0
  timers := ⟨⟨0, 256, 0, false⟩, ⟨0, 256, 0, false⟩, ⟨0, 256, 0, false⟩, ⟨0, 256, 0, false⟩, ⟨1, 1, 0, false⟩⟩
  host := host

/-- The DMA-PCM channel right after DMA_RESET(host_rate) (R401). -/
def Dma.fresh (host : Nat) : Dma where
  ctrl := 0
  startHi := 0
  startMid := 0
  startLo := 0
  endHi := 0
  endMid := 0
  endLo := 0
  mode := 0
  mwDataHi := 0
  mwDataLo := 0
  mwMaskHi := 0
  mwMaskLo := 0
  cur := 0
  endp := 0
  acc := 0
  avgAcc := 0
  parity := false
  level := 0
  mwPending := 0
  masterVol := 64
  host := host

/-- The machine right after reset (R700, R701): SYS_RESET(HOST_RATE) on a new session. HOST_RATE is log 5's; the host
arguments are log 6's (DESIGN CHOICE, unsafe); the environment has asked for nothing. -/
def State.reset : State where
  ram := []
  psg := Psg.fresh Config.hostRate Config.ymClock
  mfp := Mfp.fresh Config.hostRate
  dma := Dma.fresh Config.hostRate
  sys := ⟨0, 0, false⟩
  song := ⟨882, 0, 0, 0, 0⟩
  env := ⟨[], [], [], [], []⟩
  out := .nothing

end Sys2Proof.Machine
end

