-- ==== Sys2Proof/Machine/Memory.lean ====
section
/-! DEFINITION. Sparse arrays in one canonical form (rising keys, no entry equal to what an unlisted key reads as), and
the RAM as one of them (10_state R38, 20_memory R71, R72). -/

namespace Sys2Proof.Machine

/-- The entry at a key; an unlisted key reads as `z`. -/
def sparseGet {α : Type} (z : α) : List (Nat × α) → Nat → α
  | [], _ => z
  | (k, v) :: t, a => if k = a then v else sparseGet z t a

/-- Sets the entry at a key and keeps the canonical form: setting `z` removes the entry. -/
def sparseSet {α : Type} [DecidableEq α] (z : α) : List (Nat × α) → Nat → α → List (Nat × α)
  | [], a, v => if v = z then [] else [(a, v)]
  | (k, w) :: t, a, v =>
    if a < k then (if v = z then (k, w) :: t else (a, v) :: (k, w) :: t)
    else if a = k then (if v = z then t else (a, v) :: t)
    else (k, w) :: sparseSet z t a v

/-- The canonical form from a least key on. -/
def sparseWfFrom {α : Type} [DecidableEq α] (z : α) : Nat → List (Nat × α) → Bool
  | _, [] => true
  | lo, (k, v) :: t => decide (lo ≤ k) && !decide (v = z) && sparseWfFrom z (k + 1) t

/-- What a RAM byte that nothing has written reads as: reset clears RAM (R38, R700). -/
def ramDefault : Byte := 0

/-- The RAM's canonical form: rising addresses below RAM_SIZE, no entry equal to what an unlisted address reads as. -/
def Memory.wf (m : List Host.Cell) : Bool :=
  sparseWfFrom ramDefault 0 m && m.all fun c => decide (c.1 < Config.ramSize)

/-- `MemRead(addr, 1)` (R71): beyond RAM_SIZE the open-bus byte. -/
def memRead (m : List Host.Cell) (a : Nat) : Byte :=
  if a < Config.ramSize then sparseGet ramDefault m a else 0xFF

/-- `MemWrite(addr, 1, v)` (R72): beyond RAM_SIZE nothing. -/
def memWrite (m : List Host.Cell) (a : Nat) (v : Byte) : List Host.Cell :=
  if a < Config.ramSize then sparseSet ramDefault m a v else m

/-- Bytes stored one after another from an address (R507). -/
def memWriteAll (m : List Host.Cell) (a : Nat) : List Byte → List Host.Cell
  | [] => m
  | b :: bs => memWriteAll (memWrite m a b) (a + 1) bs

end Sys2Proof.Machine
end

