-- ==== Sys2Proof/Machine/Operands.lean ====
section
/-! DEFINITION. The operand forms: the registers read as the fields, periods, pointers and words the rules use
(10_state R22, R23, R25, R26, R31, R33, R35), and the parameter tables of 00_scope R7 and 60_exceptions R611. -/

namespace Sys2Proof.Machine

/-! Things indexed by voice or timer. -/

/-- The thing of a voice. -/
def Three.get {α : Type} (x : Three α) : Voice → α
  | .A => x.a
  | .B => x.b
  | .C => x.c

/-- The three things a function gives. -/
def Three.build {α : Type} (f : Voice → α) : Three α := ⟨f .A, f .B, f .C⟩

/-- The thing of a timer. -/
def Five.get {α : Type} (x : Five α) : TimerId → α
  | .A => x.a
  | .B => x.b
  | .C => x.c
  | .D => x.d
  | .GPI7 => x.gpi7

/-- The five things a function gives. -/
def Five.build {α : Type} (f : TimerId → α) : Five α := ⟨f .A, f .B, f .C, f .D, f .GPI7⟩

/-- One timer's thing replaced. -/
def Five.set {α : Type} (x : Five α) (t : TimerId) (v : α) : Five α :=
  Five.build fun u => if u = t then v else x.get u

/-- The timers in the order of R9. -/
def allTimers : List TimerId := [.A, .B, .C, .D, .GPI7]

/-! The sound chip's registers. -/

/-- `MASK[n]` of R22. -/
def psgMask (n : Fin 16) : Byte :=
  match n.val with
  | 1 => 0x0F
  | 3 => 0x0F
  | 5 => 0x0F
  | 6 => 0x1F
  | 8 => 0x1F
  | 9 => 0x1F
  | 10 => 0x1F
  | 13 => 0x0F
  | _ => 0xFF

/-- `PSG.R[n]`. -/
def Psg.reg (p : Psg) (n : Fin 16) : Byte := p.regs.get n

/-- The register of a tone's fine period (R22). -/
def fineReg : Voice → Fin 16
  | .A => 0
  | .B => 2
  | .C => 4

/-- The register of a tone's coarse period (R22). -/
def coarseReg : Voice → Fin 16
  | .A => 1
  | .B => 3
  | .C => 5

/-- The register of a voice's level (R22). -/
def levelReg : Voice → Fin 16
  | .A => 8
  | .B => 9
  | .C => 10

/-- The index `v` of a voice (R25). -/
def voiceIndex : Voice → Nat
  | .A => 0
  | .B => 1
  | .C => 2

/-- The tone period `TP(v)` (R23). -/
def Psg.tonePeriod (p : Psg) (v : Voice) : Nat :=
  ((p.reg (coarseReg v)).extractLsb' 0 4 ++ p.reg (fineReg v)).toNat

/-- The noise period `NP` (R23). -/
def Psg.noisePeriod (p : Psg) : Nat := ((p.reg 6).extractLsb' 0 5).toNat

/-- The envelope period `EP` (R23). -/
def Psg.envPeriod (p : Psg) : Nat := (p.reg 12 ++ p.reg 11).toNat

/-- The envelope shape `SHAPE` (R23). -/
def Psg.shape (p : Psg) : BitVec 4 := (p.reg 13).extractLsb' 0 4

/-- Five equal bits: one lane of the packed words (R25). -/
def lane (b : Bool) : BitVec 5 := bif b then 0x1F else 0

/-- The edge word `EDGE15` (R25): channel v owns bits 5v+4..5v. -/
def Psg.edgeWord (p : Psg) : BitVec 15 := lane p.tones.c.edge ++ lane p.tones.b.edge ++ lane p.tones.a.edge

/-- The noise mask `NOISE15` (R26). -/
def Psg.noiseWord (p : Psg) : BitVec 15 := bif p.noiseBit then 0x7FFF else 0

/-! The timer controller's registers. -/

/-- `EN(t)` (R31). -/
def Mfp.en (m : Mfp) : TimerId → Bool
  | .A => m.iera.getLsbD 5
  | .B => m.iera.getLsbD 0
  | .C => m.ierb.getLsbD 5
  | .D => m.ierb.getLsbD 4
  | .GPI7 => m.iera.getLsbD 7

/-- `MSK(t)` (R31). -/
def Mfp.msk (m : Mfp) : TimerId → Bool
  | .A => m.imra.getLsbD 5
  | .B => m.imra.getLsbD 0
  | .C => m.imrb.getLsbD 5
  | .D => m.imrb.getLsbD 4
  | .GPI7 => m.imra.getLsbD 7

/-- `CTRL(t)` (R31): four bits, of which C and D have three. -/
def Mfp.ctrl (m : Mfp) : TimerId → BitVec 4
  | .A => m.tacr.extractLsb' 0 4
  | .B => m.tbcr.extractLsb' 0 4
  | .C => 0#1 ++ m.tcdcr.extractLsb' 4 3
  | .D => 0#1 ++ m.tcdcr.extractLsb' 0 3
  | .GPI7 => 0b1000

/-- `PRESCALE[0..7]` (R7). -/
def prescale (n : Nat) : Nat :=
  match n with
  | 1 => 4
  | 2 => 10
  | 3 => 16
  | 4 => 50
  | 5 => 64
  | 6 => 100
  | 7 => 200
  | _ => 0

/-- `PRE(t)` (R32). -/
def Mfp.pre (m : Mfp) (t : TimerId) : Nat := prescale ((m.ctrl t).extractLsb' 0 3).toNat

/-- `RELOAD(t)` (R33): 0 means 256. -/
def Timer.reloadCount (t : Timer) : Nat := if t.reload = 0 then 256 else t.reload.toNat

/-- `VEC(t)` (R611). -/
def vector : TimerId → Addr
  | .A => 0x000134
  | .B => 0x000120
  | .C => 0x000114
  | .D => 0x000110
  | .GPI7 => 0x00013C

/-! The DMA-PCM channel's registers. -/

/-- `START` (R35). -/
def Dma.start (d : Dma) : BitVec 24 := d.startHi ++ d.startMid ++ d.startLo

/-- `ENDREG` (R35). -/
def Dma.endReg (d : Dma) : BitVec 24 := d.endHi ++ d.endMid ++ d.endLo

/-- `RATESEL` (R35). -/
def Dma.rateSel (d : Dma) : Nat := (d.mode.extractLsb' 0 2).toNat

/-- `MW_DATA` (R35). -/
def Dma.mwData (d : Dma) : BitVec 16 := d.mwDataHi ++ d.mwDataLo

/-- `MW_MASK` (R35). -/
def Dma.mwMask (d : Dma) : BitVec 16 := d.mwMaskHi ++ d.mwMaskLo

/-- `DMA_RATE[0..3]` (R7). -/
def dmaRate (n : Nat) : Nat :=
  match n with
  | 0 => 6258
  | 1 => 12517
  | 2 => 25033
  | _ => 50066

/-- `MWVOL(d)` (R7). -/
def mwVol (d : Nat) : Nat := min d 40 * 64 / 40

end Sys2Proof.Machine
end

