-- ==== Sys2Proof/Machine/Flags.lean ====
section
/-! DEFINITION. The condition and status bits the rules test (10_state R32, R34, R35, R39; 40_psg R263): timer modes, play
and loop bits, channel gates. -/

namespace Sys2Proof.Machine

/-! Timers. -/

/-- `EVENT(t)` (R32). -/
def Mfp.eventMode (m : Mfp) (t : TimerId) : Bool := (m.ctrl t).getLsbD 3

/-- `STOPPED(t)` (R32). -/
def Mfp.stopped (m : Mfp) (t : TimerId) : Bool := m.ctrl t == 0

/-- `DELAY(t)` (R32). -/
def Mfp.delay (m : Mfp) (t : TimerId) : Bool := !m.eventMode t && (m.ctrl t).extractLsb' 0 3 != 0

/-- `COUNTING(t)` (R32). -/
def Mfp.counting (m : Mfp) (t : TimerId) : Bool := m.en t && m.delay t

/-- The states of a timer (R34). -/
inductive TimerMode where
  | disabled | armed | counting | waiting
deriving DecidableEq, Repr

/-- The state a timer is in (R34). -/
def Mfp.timerMode (m : Mfp) (t : TimerId) : TimerMode :=
  if !m.en t then .disabled
  else if m.delay t then .counting
  else if m.eventMode t then .waiting
  else .armed

/-! The DMA-PCM channel. -/

/-- `PLAY` (R35). -/
def Dma.play (d : Dma) : Bool := d.ctrl.getLsbD 0

/-- `LOOP` (R35). -/
def Dma.loop (d : Dma) : Bool := d.ctrl.getLsbD 1

/-- `MONO` (R35). -/
def Dma.monaural (d : Dma) : Bool := d.mode.getLsbD 7

/-! The sound chip's gates. -/

/-- The tone-disable bit of a voice in the mixer (R22, R263). -/
def Psg.toneOff (p : Psg) (v : Voice) : Bool := (p.reg 7).getLsbD (voiceIndex v)

/-- The noise-disable bit of a voice in the mixer (R22, R263). -/
def Psg.noiseOff (p : Psg) (v : Voice) : Bool := (p.reg 7).getLsbD (3 + voiceIndex v)

/-- `TONE_OPEN(v)` (R263). -/
def Psg.toneOpen (p : Psg) (v : Voice) : Bool := (p.tones.get v).edge || p.toneOff v

/-- `NOISE_OPEN(v)` (R263). -/
def Psg.noiseOpen (p : Psg) (v : Voice) : Bool := p.noiseBit || p.noiseOff v

end Sys2Proof.Machine
end

