-- ==== Sys2Proof/Machine/MfpOps.lean ====
section
/-! DEFINITION. The operations of the timer controller (41_mfp_timers): reset, the shared register writes and reads, the
tick of a timer and the external event. -/

namespace Sys2Proof.Machine

/-- MFP_RESET(host_rate) (R301). -/
def mfpReset (host : Nat) : Mfp where
  host := host
  gpip := 0
  aer := 0
  ddr := 0
  iera := 0
  ierb := 0
  imra := 0
  imrb := 0
  vr := 0
  tacr := 0
  tbcr := 0
  tcdcr := 0
  timers := Five.build fun t => if t = .GPI7 then ⟨1, 1, 0, false⟩ else ⟨0, 256, 0, false⟩

/-- A timer put back to its reload value with no fraction of a clock pending (R320). -/
def Timer.restart (x : Timer) : Timer := { x with counter := x.reloadCount, acc := 0 }

/-- After a write of an enable register (R320): the delay-mode timers it took from disabled to enabled restart. -/
def Mfp.restartEnabled (before after : Mfp) : Mfp :=
  { after with
    timers := Five.build fun t =>
      if !before.en t && after.en t && after.delay t then (after.timers.get t).restart else after.timers.get t }

/-- `IER_WRITE(IERA, v)` (R320). -/
def Mfp.writeIera (m : Mfp) (v : Byte) : Mfp := m.restartEnabled { m with iera := v }

/-- `IER_WRITE(IERB, v)` (R320). -/
def Mfp.writeIerb (m : Mfp) (v : Byte) : Mfp := m.restartEnabled { m with ierb := v }

/-- After a write of a control register (R321): the timers it controls and set counting lose their fraction. -/
def Mfp.startControlled (before after : Mfp) (ts : List TimerId) : Mfp :=
  { after with
    timers := Five.build fun t =>
      if decide (t ∈ ts) && !before.counting t && after.counting t then { after.timers.get t with acc := 0 }
      else after.timers.get t }

/-- `CTRL_WRITE(TACR, v)` (R321). -/
def Mfp.writeTacr (m : Mfp) (v : Byte) : Mfp := m.startControlled { m with tacr := v &&& 0x0F } [.A]

/-- `CTRL_WRITE(TBCR, v)` (R321). -/
def Mfp.writeTbcr (m : Mfp) (v : Byte) : Mfp := m.startControlled { m with tbcr := v &&& 0x0F } [.B]

/-- `CTRL_WRITE(TCDCR, v)` (R321). -/
def Mfp.writeTcdcr (m : Mfp) (v : Byte) : Mfp := m.startControlled { m with tcdcr := v &&& 0x77 } [.C, .D]

/-- A timer's data byte written (R322): the next reload, and the count at once while the timer is stopped. -/
def Timer.load (x : Timer) (v : Byte) (stopped : Bool) : Timer :=
  if stopped then { x with reload := v, counter := ({ x with reload := v } : Timer).reloadCount }
  else { x with reload := v }

/-- `DATA_WRITE(t, v)` (R322). -/
def Mfp.writeData (m : Mfp) (t : TimerId) (v : Byte) : Mfp :=
  { m with timers := m.timers.set t ((m.timers.get t).load v (m.stopped t)) }

/-- `DATA_READ(t)` (R323). -/
def Mfp.readData (m : Mfp) (t : TimerId) : Byte := BitVec.ofNat 8 (m.timers.get t).counter

/-- `COUNT_DOWN` (R330): the timer after it, and whether it reached the end of its count. -/
def Timer.countDown (x : Timer) : Timer × Bool :=
  if x.counter = 1 then ({ x with counter := x.reloadCount }, true)
  else ({ x with counter := x.counter - 1 }, false)

/-- `n` count-downs, and whether any reached the end. -/
def Timer.countDownN : Nat → Timer → Timer × Bool
  | 0, x => (x, false)
  | n + 1, x =>
    let one := x.countDown
    let rest := Timer.countDownN n one.1
    (rest.1, one.2 || rest.2)

/-- One tick of a delay-mode timer (R330) whose count-down takes `unit` of the accumulator's units. The rule's loop runs
`(acc + MFP_CLOCK) // unit` times and leaves the remainder (log 13). -/
def Timer.delayTick (x : Timer) (unit : Nat) : Timer × Bool :=
  let r := Timer.countDownN ((x.acc + Config.mfpClock) / unit) x
  ({ r.1 with acc := (x.acc + Config.mfpClock) % unit }, r.2)

/-- The counting part of MFP_TICK (R330), before the event flag is cleared and the mask applied. -/
def Mfp.countTimer (m : Mfp) (t : TimerId) : Timer × Bool :=
  let x := m.timers.get t
  if m.en t then
    if m.eventMode t then (if x.event then x.countDown else (x, false))
    else if m.delay t then x.delayTick (m.pre t * m.host)
    else (x, false)
  else (x, false)

/-- MFP_TICK(t) (R330): the controller after it, and whether the firing propagates. -/
def Mfp.tick (m : Mfp) (t : TimerId) : Mfp × Bool :=
  let r := m.countTimer t
  ({ m with timers := m.timers.set t { r.1 with event := false } }, r.2 && m.msk t)

/-- MFP_SIGNAL(t) (R340). -/
def Mfp.signal (m : Mfp) (t : TimerId) : Mfp :=
  { m with timers := m.timers.set t { m.timers.get t with event := true } }

/-- The five ticks of one output sample, in TimerId order (R501). -/
def Mfp.tickAll (m : Mfp) : Mfp × Five Bool :=
  let a := m.tick .A
  let b := a.1.tick .B
  let c := b.1.tick .C
  let d := c.1.tick .D
  let g := d.1.tick .GPI7
  (g.1, ⟨a.2, b.2, c.2, d.2, g.2⟩)

end Sys2Proof.Machine
end

