-- ==== Sys2Proof/Machine/DmaOps.lean ====
section
/-! DEFINITION. The operations of the DMA-PCM channel and the microwire (42_dma_pcm): reset, play control, the
per-sample fetch, buffer ends, the master-volume transfer and the mask rotation. -/

namespace Sys2Proof.Machine

/-- DMA_RESET(host_rate) (R401). -/
def dmaReset (host : Nat) : Dma where
  host := host
  ctrl := 0
  startHi := 0
  startMid := 0
  startLo := 0
  endHi := 0
  endMid := 0
  endLo := 0
  mode := 0
  mwDataHi := 0
  mwDataLo := 0
  mwMaskHi := 0
  mwMaskLo := 0
  cur := 0
  endp := 0
  acc := 0
  avgAcc := 0
  parity := false
  level := 0
  mwPending := 0
  masterVol := 64

/-- The pointers fetched from their registers (R410, R421). -/
def Dma.refetch (d : Dma) : Dma := { d with cur := d.start, endp := d.endReg }

/-- The stream's clock and levels cleared (R410, R421). -/
def Dma.clearStream (d : Dma) : Dma := { d with acc := 0, avgAcc := 0, parity := false, level := 0 }

/-- `CTRL_WRITE(v)` (R410): only a rising edge of the play bit fetches the pointers. -/
def Dma.writeCtrl (d : Dma) (v : Byte) : Dma :=
  let d1 := { d with ctrl := v &&& 0x03 }
  if !d.play && d1.play then d1.refetch.clearStream else d1

/-- A signed sample byte of RAM (R422, R71). -/
def sampleByte (ram : List Host.Cell) (a : BitVec 24) : Int := (memRead ram a.toNat).toInt

/-- `FETCH` (R422): the channel after it, and the frame. -/
def Dma.fetch (ram : List Host.Cell) (d : Dma) : Dma × Int :=
  if d.monaural then ({ d with cur := d.cur + 1 }, sampleByte ram d.cur)
  else ({ d with cur := d.cur + 1 + 1 }, sampleByte ram d.cur + sampleByte ram (d.cur + 1))

/-- The level a frame gives (R420, R423): in double-rate mode the mean of each pair of frames. -/
def Dma.hear (d : Dma) (f : Int) : Dma :=
  if d.rateSel = 3 then
    if d.parity then { d with level := (d.avgAcc + f) >>> 1, avgAcc := 0, parity := false }
    else { d with avgAcc := d.avgAcc + f, parity := true }
  else { d with level := f }

/-- `BUFFER_END`'s part on the channel (R421). -/
def Dma.bufferEnd (d : Dma) : Dma :=
  if d.loop then d.refetch
  else ({ d.refetch with ctrl := d.ctrl &&& 0xFE } : Dma).clearStream

/-- `BUFFER_END`'s signals (R421): Timer A and GPI7. -/
def Mfp.bufferEnd (m : Mfp) : Mfp := (m.signal .A).signal .GPI7

/-- One turn of R420's loop: a frame's worth of clock, the frame, its level, and the buffer end if the pointer reached
it. -/
def dmaFrame (ram : List Host.Cell) (d : Dma) (m : Mfp) : Dma × Mfp :=
  let r := ({ d with acc := d.acc - d.host } : Dma).fetch ram
  let d1 := r.1.hear r.2
  if d1.endp ≤ d1.cur then (d1.bufferEnd, m.bufferEnd) else (d1, m)

/-- R420's loop, at most `n` turns: it leaves early when a buffer end stopped the channel. -/
def dmaLoop (ram : List Host.Cell) : Nat → Dma → Mfp → Dma × Mfp
  | 0, d, m => (d, m)
  | n + 1, d, m =>
    let r := dmaFrame ram d m
    if r.1.play then dmaLoop ram n r.1 r.2 else r

/-- The channel's clock advanced by one sample period (R420). -/
def Dma.advance (d : Dma) : Dma := { d with acc := d.acc + dmaRate d.rateSel }

/-- DMA_SAMPLE (R420, R424): the channel and the timers after it, and the sample. -/
def dmaSample (ram : List Host.Cell) (d : Dma) (m : Mfp) : Dma × Mfp × Int :=
  if d.play then
    let r := dmaLoop ram (d.advance.acc / d.host) d.advance m
    (r.1, r.2, if r.1.play then r.1.level * r.1.masterVol * 4 else 0)
  else ({ d with level := 0 }, m, 0)

/-! The microwire. -/

/-- The data bits under the mask, most significant first (R440). -/
def mwBits (data mask : BitVec 16) : List Bool :=
  ([15, 14, 13, 12, 11, 10, 9, 8, 7, 6, 5, 4, 3, 2, 1, 0].filter fun j => mask.getLsbD j).map fun j => data.getLsbD j

/-- The number whose binary digits, most significant first, are the list. -/
def bitsValue (bits : List Bool) : Nat := bits.foldl (fun n b => 2 * n + b.toNat) 0

/-- The 11-bit command (R440): the last 11 of the selected bits, if there are 11. -/
def mwCommand (data mask : BitVec 16) : Option Nat :=
  let bits := mwBits data mask
  if 11 ≤ bits.length then some (bitsValue (bits.drop (bits.length - 11))) else none

/-- The master volume a command sets (R440): address 10, function 011, else none. -/
def mwVolume (cmd : Nat) : Option Nat :=
  if cmd / 512 = 2 ∧ cmd / 64 % 8 = 3 then some (mwVol (cmd % 64)) else none

/-- `MW_TRANSFER` (R440). -/
def Dma.transfer (d : Dma) : Dma :=
  { d with
    mwPending := 16
    masterVol := ((mwCommand d.mwData d.mwMask).bind mwVolume).getD d.masterVol }

/-- A write of MW_DATA_LO (R477): the store, then the transfer. -/
def Dma.writeMwDataLo (d : Dma) (v : Byte) : Dma := ({ d with mwDataLo := v } : Dma).transfer

/-- `MW_ROT` (R441). -/
def Dma.mwRot (d : Dma) : BitVec 16 := d.mwMask.rotateLeft ((16 - d.mwPending) % 16)

/-- The busy count less one (R441). -/
def Dma.shiftOnce (d : Dma) : Dma := { d with mwPending := d.mwPending - 1 }

end Sys2Proof.Machine
end

