-- ==== Sys2Proof/Machine/PsgOps.lean ====
section
/-! DEFINITION. The operations of the sound chip (40_psg): reset, ports, register store, the chip tick, envelope levels,
and one output sample. -/

namespace Sys2Proof.Machine

/-- PSG_RESET(host_rate, chip_clock) (R201). -/
def psgReset (host clock : Nat) : Psg where
  host := host
  clk8 := clock / 8
  regs := Vector.replicate 16 0
  sel := 0
  tones := Three.build fun _ => ⟨0, false⟩
  noiseHalf := false
  noiseCnt := 0
  lfsr := 1
  noiseBit := false
  envCnt := 0
  envPos := 0
  resAcc := 0
  dcBuf := []
  dcSum := 0
  dcIdx := 0

/-! Ports. -/

/-- The register `PSG.sel` names (R210). -/
def Psg.selReg (p : Psg) : Fin 16 := p.sel.toFin

/-- The select port's write (R210): values above 15 are taken mod 16. -/
def Psg.select (p : Psg) (v : Byte) : Psg := { p with sel := v.extractLsb' 0 4 }

/-- What either port reads: `PSG.R[PSG.sel]` (R203, R214, R216). -/
def Psg.portRead (p : Psg) : Byte := p.reg p.selReg

/-- The masked store of a register (R202). -/
def Psg.store (p : Psg) (n : Fin 16) (v : Byte) : Psg :=
  { p with regs := p.regs.set n.val (v &&& psgMask n) n.isLt }

/-- The envelope put back to its start (R253). -/
def Psg.restartEnvelope (p : Psg) : Psg := { p with envPos := 0, envCnt := 0 }

/-- A register write (R240 to R255): the masked store, and for register 13 the envelope's restart. -/
def Psg.writeReg (p : Psg) (n : Fin 16) (v : Byte) : Psg :=
  if n = 13 then (p.store n v).restartEnvelope else p.store n v

/-! The chip tick. -/

/-- `TONE_STEP` of one channel with period `period` (R221). -/
def Tone.step (period : Nat) (t : Tone) : Tone :=
  if period ≤ t.cnt + 1 then ⟨0, !t.edge⟩ else ⟨t.cnt + 1, t.edge⟩

/-- The three tone steps (R220). -/
def Psg.toneStep (p : Psg) : Psg :=
  { p with tones := Three.build fun v => (p.tones.get v).step (p.tonePeriod v) }

/-- `LFSR_STEP` (R223). -/
def lfsrStep (r : BitVec 17) : BitVec 17 :=
  (r >>> 1) ||| ((BitVec.ofBool (r.getLsbD 0 ^^ r.getLsbD 3)).setWidth 17 <<< 16)

/-- `NOISE_STEP` (R222): the counter advances on the ticks that set the half-rate bit. -/
def Psg.noiseStep (p : Psg) : Psg :=
  if p.noiseHalf then { p with noiseHalf := false }
  else if p.noisePeriod ≤ p.noiseCnt + 1 then
    { p with
      noiseHalf := true
      noiseCnt := 0
      lfsr := lfsrStep p.lfsr
      noiseBit := (lfsrStep p.lfsr).getLsbD 0 }
  else { p with noiseHalf := true, noiseCnt := p.noiseCnt + 1 }

/-- `ENV_STEP` (R224). -/
def Psg.envStep (p : Psg) : Psg :=
  if p.envPeriod ≤ p.envCnt + 1 then
    { p with envCnt := 0, envPos := if p.envPos = 95 then 32 else p.envPos + 1 }
  else { p with envCnt := p.envCnt + 1 }

/-- PSG_TICK's change of state (R220). -/
def Psg.tick (p : Psg) : Psg := p.toneStep.noiseStep.envStep

/-- `n` chip ticks. -/
def Psg.tickN : Nat → Psg → Psg
  | 0, p => p
  | n + 1, p => Psg.tickN n p.tick

/-- `RESAMPLE` (R261): the ticks that fit in one sample period. The rule's loop runs
`(res_acc + clk8) // host` times and leaves the remainder (log 13). -/
def Psg.resample (p : Psg) : Psg :=
  { Psg.tickN ((p.resAcc + p.clk8) / p.host) p with resAcc := (p.resAcc + p.clk8) % p.host }

/-! Levels. -/

/-- One ramp of 32 levels, rising or falling (R230). -/
def ramp (rising : Bool) (i : Nat) : Nat := if rising then i else 31 - i

/-- `ENV(s, p)` (R230). -/
def envLevel (s : BitVec 4) (p : Nat) : Nat :=
  let cont := s.getLsbD 3
  let att := s.getLsbD 2
  let alt := s.getLsbD 1
  let hold := s.getLsbD 0
  let k := p / 32
  let i := p % 32
  if k = 0 then ramp att i
  else if !cont then 0
  else if hold then (if att ^^ alt then 31 else 0)
  else if alt then ramp (att ^^ decide (k = 1)) i
  else ramp att i

/-- `LEVEL_INDEX(v)` (R262). -/
def Psg.levelIndex (p : Psg) (v : Voice) : Nat :=
  let l := p.reg (levelReg v)
  if l.getLsbD 4 then envLevel p.shape p.envPos else 2 * (l.extractLsb' 0 4).toNat + 1

/-- `GATED_INDEX(v)` (R263). -/
def Psg.gatedIndex (p : Psg) (v : Voice) : Nat :=
  if p.toneOpen v && p.noiseOpen v then p.levelIndex v else 0

/-- `VOL_TABLE[i]` (R7, R264): the OPEN table under the spec's constraints. Every table that starts at 0 and does not
decrease is the running maximum of itself (log 7). -/
def volTable : Nat → Nat
  | 0 => 0
  | i + 1 => max (volTable i) (Config.volRaw (i + 1)).toNat

/-- The raw sum of the three amplitudes (R260, R264). -/
def Psg.rawSum (p : Psg) : Nat :=
  volTable (p.gatedIndex .A) + volTable (p.gatedIndex .B) + volTable (p.gatedIndex .C)

/-- `DC_FILTER(raw)` (R265). -/
def Psg.dcFilter (p : Psg) (raw : Nat) : Psg × Int :=
  ({ p with
      dcSum := p.dcSum - sparseGet 0 p.dcBuf p.dcIdx + raw
      dcBuf := sparseSet 0 p.dcBuf p.dcIdx raw
      dcIdx := (p.dcIdx + 1) % Config.dcLen },
    (raw : Int) - ((p.dcSum / Config.dcLen : Nat) : Int))

/-- PSG_SAMPLE (R260). -/
def Psg.sample (p : Psg) : Psg × Int :=
  p.resample.dcFilter p.resample.rawSum

/-- The coarse level of a voice (R267). -/
def Psg.coarse (p : Psg) (v : Voice) : Nat := p.gatedIndex v / 2

/-! The packed form of R266. -/

/-- `LV15` (R266). -/
def Psg.levelWord (p : Psg) : BitVec 15 :=
  BitVec.ofNat 5 (p.levelIndex .C) ++ BitVec.ofNat 5 (p.levelIndex .B) ++ BitVec.ofNat 5 (p.levelIndex .A)

/-- `TDIS15` (R266). -/
def Psg.toneOffWord (p : Psg) : BitVec 15 :=
  lane (p.toneOff .C) ++ lane (p.toneOff .B) ++ lane (p.toneOff .A)

/-- `NDIS15` (R266). -/
def Psg.noiseOffWord (p : Psg) : BitVec 15 :=
  lane (p.noiseOff .C) ++ lane (p.noiseOff .B) ++ lane (p.noiseOff .A)

/-- `G15` (R266). -/
def Psg.gatedWord (p : Psg) : BitVec 15 :=
  p.levelWord &&& (p.edgeWord ||| p.toneOffWord) &&& (p.noiseWord ||| p.noiseOffWord)

end Sys2Proof.Machine
end

