-- ==== Sys2Proof/Machine/Ops.lean ====
section
/-! DEFINITION. The operations shared by all families: the device windows' bus dispatch, the byte, halfword and longword
transactions of the bus (20_memory R74 to R77, R81), handing a result to the caller, and the dispatch to the host, which is
what this block has in place of taking an exception (43_sample_step R503, 60_exceptions R613, R614). -/

namespace Sys2Proof.Machine

/-! Device windows. -/

/-- A read at an even offset of the sound chip's window (R212): either port. -/
def Psg.evenRead (p : Psg) (off : Byte) : Byte :=
  if off.getLsbD 1 then p.portRead else p.portRead

/-- `PSG_Read8(off)` (R212): an odd offset reads the even one below it (R218). -/
def Psg.read8 (p : Psg) (off : Byte) : Byte :=
  if off.getLsbD 0 then p.evenRead (off - 1) else p.evenRead off

/-- `PSG_Write8(off, v)` (R211): an odd offset is ignored (R217). -/
def Psg.write8 (p : Psg) (off v : Byte) : Psg :=
  if off.getLsbD 0 then p
  else if off.getLsbD 1 then p.writeReg p.selReg v
  else p.select v

/-- `MFP_Read8(off)` (R350): even offsets read 0xFF (R390). -/
def Mfp.read8 (m : Mfp) (off : Byte) : Byte :=
  match off.toNat with
  | 0x01 => m.gpip
  | 0x03 => m.aer
  | 0x05 => m.ddr
  | 0x07 => m.iera
  | 0x09 => m.ierb
  | 0x0B => 0x00
  | 0x0D => 0x00
  | 0x0F => 0x00
  | 0x11 => 0x00
  | 0x13 => m.imra
  | 0x15 => m.imrb
  | 0x17 => m.vr
  | 0x19 => m.tacr
  | 0x1B => m.tbcr
  | 0x1D => m.tcdcr
  | 0x1F => m.readData .A
  | 0x21 => m.readData .B
  | 0x23 => m.readData .C
  | 0x25 => m.readData .D
  | _ => 0xFF

/-- `MFP_Write8(off, v)` (R351): even offsets are ignored (R391). -/
def Mfp.write8 (m : Mfp) (off v : Byte) : Mfp :=
  match off.toNat with
  | 0x01 => { m with gpip := v }
  | 0x03 => { m with aer := v }
  | 0x05 => { m with ddr := v }
  | 0x07 => m.writeIera v
  | 0x09 => m.writeIerb v
  | 0x0B => m
  | 0x0D => m
  | 0x0F => m
  | 0x11 => m
  | 0x13 => { m with imra := v }
  | 0x15 => { m with imrb := v }
  | 0x17 => { m with vr := v }
  | 0x19 => m.writeTacr v
  | 0x1B => m.writeTbcr v
  | 0x1D => m.writeTcdcr v
  | 0x1F => m.writeData .A v
  | 0x21 => m.writeData .B v
  | 0x23 => m.writeData .C v
  | 0x25 => m.writeData .D v
  | _ => m

/-- The byte `DMA_Read8(off)` returns (R450): unused offsets read 0x00 (R482). -/
def Dma.read8 (d : Dma) (off : Byte) : Byte :=
  match off.toNat with
  | 0x01 => d.ctrl
  | 0x03 => d.startHi
  | 0x05 => d.startMid
  | 0x07 => d.startLo
  | 0x09 => d.cur.extractLsb' 16 8
  | 0x0B => d.cur.extractLsb' 8 8
  | 0x0D => d.cur.extractLsb' 0 8
  | 0x0F => d.endHi
  | 0x11 => d.endMid
  | 0x13 => d.endLo
  | 0x21 => d.mode
  | 0x22 => d.mwDataHi
  | 0x23 => d.mwDataLo
  | 0x24 => d.shiftOnce.mwRot.extractLsb' 8 8
  | 0x25 => d.mwRot.extractLsb' 0 8
  | _ => 0x00

/-- The one read with a side effect, that of MW_MASK_HI (R82, R441). -/
def Dma.afterRead8 (d : Dma) (off : Byte) : Dma :=
  if off.toNat = 0x24 then d.shiftOnce else d

/-- `DMA_Write8(off, v)` (R451): unused offsets are ignored (R483). -/
def Dma.write8 (d : Dma) (off v : Byte) : Dma :=
  match off.toNat with
  | 0x01 => d.writeCtrl v
  | 0x03 => { d with startHi := v }
  | 0x05 => { d with startMid := v }
  | 0x07 => { d with startLo := v }
  | 0x09 => d
  | 0x0B => d
  | 0x0D => d
  | 0x0F => { d with endHi := v }
  | 0x11 => { d with endMid := v }
  | 0x13 => { d with endLo := v }
  | 0x21 => { d with mode := v &&& 0x83 }
  | 0x22 => { d with mwDataHi := v }
  | 0x23 => d.writeMwDataLo v
  | 0x24 => { d with mwMaskHi := v }
  | 0x25 => { d with mwMaskLo := v }
  | _ => d

/-! The bus. -/

/-- `BusRead8(a)` (R74): the machine after it, and the byte. -/
def busRead8 (s : State) (a : Addr) : State × Byte :=
  match region a with
  | .ram => (s, memRead s.ram a.toNat)
  | .psg => (s, s.psg.read8 (offsetOf a))
  | .dma => ({ s with dma := s.dma.afterRead8 (offsetOf a) }, s.dma.read8 (offsetOf a))
  | .mfp => (s, s.mfp.read8 (offsetOf a))
  | .openBus => (s, 0xFF)

/-- `BusWrite8(a, v)` (R75). -/
def busWrite8 (s : State) (a : Addr) (v : Byte) : State :=
  match region a with
  | .ram => { s with ram := memWrite s.ram a.toNat v }
  | .psg => { s with psg := s.psg.write8 (offsetOf a) v }
  | .dma => { s with dma := s.dma.write8 (offsetOf a) v }
  | .mfp => { s with mfp := s.mfp.write8 (offsetOf a) v }
  | .openBus => s

/-- `BusRead16(a)` (R76): the high byte first. -/
def busRead16 (s : State) (a : Addr) : State × BitVec 16 :=
  let hi := busRead8 s a
  let lo := busRead8 hi.1 (a + 1)
  (lo.1, hi.2 ++ lo.2)

/-- `BusWrite16(a, v)` (R77): the high byte first. -/
def busWrite16 (s : State) (a : Addr) (v : BitVec 16) : State :=
  busWrite8 (busWrite8 s a (v.extractLsb' 8 8)) (a + 1) (v.extractLsb' 0 8)

/-- A 32-bit host read (R81, R105): the high half first. -/
def busRead32 (s : State) (a : Addr) : State × BitVec 32 :=
  let hi := busRead16 s a
  let lo := busRead16 hi.1 (a + 2)
  (lo.1, hi.2 ++ lo.2)

/-- A 32-bit host write (R81, R105): the high half first. -/
def busWrite32 (s : State) (a : Addr) (v : BitVec 32) : State :=
  busWrite16 (busWrite16 s a (v.extractLsb' 16 16)) (a + 2) (v.extractLsb' 0 16)

/-! Results. -/

/-- A result handed to the caller of the operation (log 9). -/
def State.give (s : State) (r : Result) : State := { s with out := r }

/-! The host processor. -/

/-- One transaction of the host: the machine after it, and the byte it read, if it was a read. -/
def hostTx (s : State) : BusTx → State × List Byte
  | .read a => ((busRead8 s a).1, [(busRead8 s a).2])
  | .write a v => (busWrite8 s a v, [])

/-- Transactions of the host, each applied at once and in order (R503), and the bytes they read. -/
def hostTxs (s : State) : List BusTx → State × List Byte
  | [] => (s, [])
  | x :: xs =>
    let one := hostTx s x
    let rest := hostTxs one.1 xs
    (rest.1, one.2 ++ rest.2)

/-- The host's steps, as many as the budget allows (R503). -/
def hostSteps (s : State) : List (List BusTx) → Nat → State × List Byte
  | [], _ => (s, [])
  | _ :: _, 0 => (s, [])
  | x :: xs, b + 1 =>
    let one := hostTxs s x
    let rest := hostSteps one.1 xs b
    (rest.1, one.2 ++ rest.2)

/-- What the host does in the next dispatch: what the environment planned, else nothing before its return (log 10). -/
def nextRun (s : State) : HostRun :=
  match s.env.runs with
  | [] => ⟨[], true⟩
  | r :: _ => r

/-- Whether a run reaches its return within a budget (R503, R508). -/
def HostRun.inTime (r : HostRun) (budget : Nat) : Bool := r.returns && decide (r.steps.length ≤ budget)

/-- `HOST_DISPATCH(kind, target, budget)` with its argument (R503, R508): the host's transactions of this dispatch are
applied, no device is clocked, and the dispatch is recorded. The block saves and restores nothing (R613, R614). -/
def hostDispatch (kind : DispatchKind) (target : Addr) (arg budget : Nat) (s : State) : State :=
  let run := nextRun s
  let r := hostSteps s run.steps budget
  { r.1 with
    env := { r.1.env with
      runs := s.env.runs.tail
      dispatched := s.env.dispatched ++ [⟨kind, target, arg, budget, r.2, run.inTime budget⟩] } }

/-- The record of dispatches started anew. -/
def State.noDispatches (s : State) : State := { s with env := { s.env with dispatched := [] } }

end Sys2Proof.Machine
end

