-- ==== Sys2Proof/Machine/DmaRegs.lean ====
section
/-! DEFINITION. The DMA-PCM channel's register transactions (42_dma_pcm R452 to R483). -/

namespace Sys2Proof.Machine

/-- DMA_CTRL_R8 (R452): offset 0x01. -/
def execDmaCtrlR8 (s : State) : Host.Outcome State Fault Refusal :=
  .next (s.give (.byte s.dma.ctrl))

/-- DMA_CTRL_W8 (R453): offset 0x01. -/
def execDmaCtrlW8 (d : Byte) (s : State) : Host.Outcome State Fault Refusal :=
  .next { s with dma := s.dma.writeCtrl d }

/-- DMA_START_HI_R8 (R454): offset 0x03. -/
def execDmaStartHiR8 (s : State) : Host.Outcome State Fault Refusal :=
  .next (s.give (.byte s.dma.startHi))

/-- DMA_START_HI_W8 (R455): offset 0x03. -/
def execDmaStartHiW8 (d : Byte) (s : State) : Host.Outcome State Fault Refusal :=
  .next { s with dma := { s.dma with startHi := d } }

/-- DMA_START_MID_R8 (R456): offset 0x05. -/
def execDmaStartMidR8 (s : State) : Host.Outcome State Fault Refusal :=
  .next (s.give (.byte s.dma.startMid))

/-- DMA_START_MID_W8 (R457): offset 0x05. -/
def execDmaStartMidW8 (d : Byte) (s : State) : Host.Outcome State Fault Refusal :=
  .next { s with dma := { s.dma with startMid := d } }

/-- DMA_START_LO_R8 (R458): offset 0x07. -/
def execDmaStartLoR8 (s : State) : Host.Outcome State Fault Refusal :=
  .next (s.give (.byte s.dma.startLo))

/-- DMA_START_LO_W8 (R459): offset 0x07. -/
def execDmaStartLoW8 (d : Byte) (s : State) : Host.Outcome State Fault Refusal :=
  .next { s with dma := { s.dma with startLo := d } }

/-- DMA_CNT_HI_R8 (R460): offset 0x09. -/
def execDmaCntHiR8 (s : State) : Host.Outcome State Fault Refusal :=
  .next (s.give (.byte (s.dma.cur.extractLsb' 16 8)))

/-- DMA_CNT_HI_W8 (R461): offset 0x09, ignored: the counter is read-only. -/
def execDmaCntHiW8 (_d : Byte) (s : State) : Host.Outcome State Fault Refusal :=
  .next s

/-- DMA_CNT_MID_R8 (R462): offset 0x0B. -/
def execDmaCntMidR8 (s : State) : Host.Outcome State Fault Refusal :=
  .next (s.give (.byte (s.dma.cur.extractLsb' 8 8)))

/-- DMA_CNT_MID_W8 (R463): offset 0x0B, ignored: the counter is read-only. -/
def execDmaCntMidW8 (_d : Byte) (s : State) : Host.Outcome State Fault Refusal :=
  .next s

/-- DMA_CNT_LO_R8 (R464): offset 0x0D. -/
def execDmaCntLoR8 (s : State) : Host.Outcome State Fault Refusal :=
  .next (s.give (.byte (s.dma.cur.extractLsb' 0 8)))

/-- DMA_CNT_LO_W8 (R465): offset 0x0D, ignored: the counter is read-only. -/
def execDmaCntLoW8 (_d : Byte) (s : State) : Host.Outcome State Fault Refusal :=
  .next s

/-- DMA_END_HI_R8 (R466): offset 0x0F. -/
def execDmaEndHiR8 (s : State) : Host.Outcome State Fault Refusal :=
  .next (s.give (.byte s.dma.endHi))

/-- DMA_END_HI_W8 (R467): offset 0x0F. -/
def execDmaEndHiW8 (d : Byte) (s : State) : Host.Outcome State Fault Refusal :=
  .next { s with dma := { s.dma with endHi := d } }

/-- DMA_END_MID_R8 (R468): offset 0x11. -/
def execDmaEndMidR8 (s : State) : Host.Outcome State Fault Refusal :=
  .next (s.give (.byte s.dma.endMid))

/-- DMA_END_MID_W8 (R469): offset 0x11. -/
def execDmaEndMidW8 (d : Byte) (s : State) : Host.Outcome State Fault Refusal :=
  .next { s with dma := { s.dma with endMid := d } }

/-- DMA_END_LO_R8 (R470): offset 0x13. -/
def execDmaEndLoR8 (s : State) : Host.Outcome State Fault Refusal :=
  .next (s.give (.byte s.dma.endLo))

/-- DMA_END_LO_W8 (R471): offset 0x13. -/
def execDmaEndLoW8 (d : Byte) (s : State) : Host.Outcome State Fault Refusal :=
  .next { s with dma := { s.dma with endLo := d } }

/-- DMA_MODE_R8 (R472): offset 0x21. -/
def execDmaModeR8 (s : State) : Host.Outcome State Fault Refusal :=
  .next (s.give (.byte s.dma.mode))

/-- DMA_MODE_W8 (R473): offset 0x21. -/
def execDmaModeW8 (d : Byte) (s : State) : Host.Outcome State Fault Refusal :=
  .next { s with dma := { s.dma with mode := d &&& 0x83 } }

/-- DMA_MW_DATA_HI_R8 (R474): offset 0x22. -/
def execDmaMwDataHiR8 (s : State) : Host.Outcome State Fault Refusal :=
  .next (s.give (.byte s.dma.mwDataHi))

/-- DMA_MW_DATA_HI_W8 (R475): offset 0x22. -/
def execDmaMwDataHiW8 (d : Byte) (s : State) : Host.Outcome State Fault Refusal :=
  .next { s with dma := { s.dma with mwDataHi := d } }

/-- DMA_MW_DATA_LO_R8 (R476): offset 0x23. -/
def execDmaMwDataLoR8 (s : State) : Host.Outcome State Fault Refusal :=
  .next (s.give (.byte s.dma.mwDataLo))

/-- DMA_MW_DATA_LO_W8 (R477): offset 0x23. -/
def execDmaMwDataLoW8 (d : Byte) (s : State) : Host.Outcome State Fault Refusal :=
  .next { s with dma := s.dma.writeMwDataLo d }

/-- DMA_MW_MASK_HI_R8 (R478): offset 0x24; the busy count goes down by one first. -/
def execDmaMwMaskHiR8 (s : State) : Host.Outcome State Fault Refusal :=
  .next (({ s with dma := s.dma.shiftOnce } : State).give (.byte (s.dma.shiftOnce.mwRot.extractLsb' 8 8)))

/-- DMA_MW_MASK_HI_W8 (R479): offset 0x24. -/
def execDmaMwMaskHiW8 (d : Byte) (s : State) : Host.Outcome State Fault Refusal :=
  .next { s with dma := { s.dma with mwMaskHi := d } }

/-- DMA_MW_MASK_LO_R8 (R480): offset 0x25. -/
def execDmaMwMaskLoR8 (s : State) : Host.Outcome State Fault Refusal :=
  .next (s.give (.byte (s.dma.mwRot.extractLsb' 0 8)))

/-- DMA_MW_MASK_LO_W8 (R481): offset 0x25. -/
def execDmaMwMaskLoW8 (d : Byte) (s : State) : Host.Outcome State Fault Refusal :=
  .next { s with dma := { s.dma with mwMaskLo := d } }

/-- DMA_UNUSED_R8 (R482): zero. -/
def execDmaUnusedR8 (_off : Byte) (s : State) : Host.Outcome State Fault Refusal :=
  .next (s.give (.byte 0x00))

/-- DMA_UNUSED_W8 (R483): ignored. -/
def execDmaUnusedW8 (_off : Byte) (_d : Byte) (s : State) : Host.Outcome State Fault Refusal :=
  .next s

end Sys2Proof.Machine
end

