-- ==== Sys2Proof/Machine/Internal.lean ====
section
/-! DEFINITION. The internal operations (30_encoding R103): resets, ticks, samples, and the per-sample step (43_sample_step R501). -/

namespace Sys2Proof.Machine

/-- `SYS_RESET(host_rate)` (R700): RAM and every device, the sample index and the diagnostic word. -/
def State.sysReset (rate : Nat) (s : State) : State :=
  { s with
    ram := []
    psg := psgReset rate Config.ymClock
    mfp := mfpReset rate
    dma := dmaReset rate
    sys := { s.sys with n := 0, vis := 0 } }

/-- `clamp(v, lo, hi)` (00_scope R10). -/
def clamp (v lo hi : Int) : Int := min (max v lo) hi

/-- `VIS_WORD` (R512): the coarse levels of the voices, and the DMA level in the top byte. -/
def visWord (p : Psg) (d : Dma) : BitVec 32 :=
  BitVec.ofInt 8 (clamp d.level (-128) 127) ++ BitVec.ofNat 8 (p.coarse .C) ++ BitVec.ofNat 8 (p.coarse .B)
    ++ BitVec.ofNat 8 (p.coarse .A)

/-- Whether a player tick is due (R504). -/
def State.playerDue (s : State) : Bool := s.sys.n % s.song.spt == 0

/-- The player tick, when it is due (R501, R504). -/
def playerTick (s : State) : State :=
  if s.playerDue then hostDispatch .player s.song.playerEntry 0 s.song.tickBudget s else s

/-- The interrupt dispatches of the timers that fired, in order (R501, R505, R612). -/
def irqDispatches (fired : Five Bool) : List TimerId → State → State
  | [], s => s
  | t :: ts, s =>
    irqDispatches fired ts (if fired.get t then hostDispatch (.irq t) (vector t) 0 s.song.irqBudget s else s)

/-- The host's part of a sample (R501): the player tick, the five timer ticks, the interrupt dispatches. -/
def hostPhase (s : State) : State :=
  let s1 := playerTick s
  let r := s1.mfp.tickAll
  irqDispatches r.2 allTimers { s1 with mfp := r.1 }

/-- The devices' part of a sample (R501): one sound-chip sample, one DMA-PCM sample, the diagnostic word, the index; and
the clamped sum (R502). -/
def devicePhase (s : State) : State × Int :=
  let p := s.psg.sample
  let d := dmaSample s.ram s.dma s.mfp
  ({ s with
      psg := p.1
      dma := d.1
      mfp := d.2.1
      sys := { s.sys with n := s.sys.n + 1, vis := visWord p.1 d.1 } },
    clamp (p.2 + d.2.2) (-32768) 32767)

/-- SYS_SAMPLE's whole effect (R501), before the result is handed over. -/
def sampleStep (s : State) : State × Int := devicePhase (hostPhase s)

/-- SYS_RESET (R700): the whole block reset; HOST_RATE 0 has no step (I10). -/
def execSysReset (rate : Nat) (s : State) : Host.Outcome State Fault Refusal :=
  if rate = 0 then .refused .hostRateZero else .next (s.sysReset rate)

/-- SYS_SAMPLE (R501): one output sample. -/
def execSysSample (s : State) : Host.Outcome State Fault Refusal :=
  .next ((sampleStep s.noDispatches).1.give (.sample (sampleStep s.noDispatches).2))

/-- PSG_RESET (R201): the sound chip reset; operands out of range have no step (I10). -/
def execPsgReset (rate : Nat) (clock : Nat) (s : State) : Host.Outcome State Fault Refusal :=
  if rate = 0 then .refused .hostRateZero
  else if clock < 8 then .refused .chipClockTooLow
  else .next { s with psg := psgReset rate clock }

/-- PSG_TICK (R220): one chip tick; returns the edge word. -/
def execPsgTick (s : State) : Host.Outcome State Fault Refusal :=
  .next (({ s with psg := s.psg.tick } : State).give (.edges s.psg.tick.edgeWord))

/-- PSG_SAMPLE (R260): one sound-chip sample. -/
def execPsgSample (s : State) : Host.Outcome State Fault Refusal :=
  .next (({ s with psg := s.psg.sample.1 } : State).give (.sample s.psg.sample.2))

/-- MFP_RESET (R301): the timer controller reset; HOST_RATE 0 has no step (I10). -/
def execMfpReset (rate : Nat) (s : State) : Host.Outcome State Fault Refusal :=
  if rate = 0 then .refused .hostRateZero else .next { s with mfp := mfpReset rate }

/-- MFP_TICK (R330): one tick of a timer; returns whether it fired. -/
def execMfpTick (t : TimerId) (s : State) : Host.Outcome State Fault Refusal :=
  .next (({ s with mfp := (s.mfp.tick t).1 } : State).give (.fired (s.mfp.tick t).2))

/-- MFP_SIGNAL (R340): a timer's event flag set. -/
def execMfpSignal (t : TimerId) (s : State) : Host.Outcome State Fault Refusal :=
  .next { s with mfp := s.mfp.signal t }

/-- DMA_RESET (R401): the DMA-PCM channel reset; HOST_RATE 0 has no step (I10). -/
def execDmaReset (rate : Nat) (s : State) : Host.Outcome State Fault Refusal :=
  if rate = 0 then .refused .hostRateZero else .next { s with dma := dmaReset rate }

/-- DMA_SAMPLE (R420): one DMA-PCM sample; a buffer end signals Timer A and GPI7. -/
def execDmaSample (s : State) : Host.Outcome State Fault Refusal :=
  let r := dmaSample s.ram s.dma s.mfp
  .next (({ s with dma := r.1, mfp := r.2.1 } : State).give (.sample r.2.2))

end Sys2Proof.Machine
end

