-- ==== Sys2Proof/Machine/MfpRegs.lean ====
section
/-! DEFINITION. The timer controller's register transactions (41_mfp_timers R352 to R391). -/

namespace Sys2Proof.Machine

/-- MFP_GPIP_R8 (R352): offset 0x01. -/
def execMfpGpipR8 (s : State) : Host.Outcome State Fault Refusal :=
  .next (s.give (.byte s.mfp.gpip))

/-- MFP_GPIP_W8 (R353): offset 0x01. -/
def execMfpGpipW8 (d : Byte) (s : State) : Host.Outcome State Fault Refusal :=
  .next { s with mfp := { s.mfp with gpip := d } }

/-- MFP_AER_R8 (R354): offset 0x03. -/
def execMfpAerR8 (s : State) : Host.Outcome State Fault Refusal :=
  .next (s.give (.byte s.mfp.aer))

/-- MFP_AER_W8 (R355): offset 0x03. -/
def execMfpAerW8 (d : Byte) (s : State) : Host.Outcome State Fault Refusal :=
  .next { s with mfp := { s.mfp with aer := d } }

/-- MFP_DDR_R8 (R356): offset 0x05. -/
def execMfpDdrR8 (s : State) : Host.Outcome State Fault Refusal :=
  .next (s.give (.byte s.mfp.ddr))

/-- MFP_DDR_W8 (R357): offset 0x05. -/
def execMfpDdrW8 (d : Byte) (s : State) : Host.Outcome State Fault Refusal :=
  .next { s with mfp := { s.mfp with ddr := d } }

/-- MFP_IERA_R8 (R358): offset 0x07. -/
def execMfpIeraR8 (s : State) : Host.Outcome State Fault Refusal :=
  .next (s.give (.byte s.mfp.iera))

/-- MFP_IERA_W8 (R359): offset 0x07. -/
def execMfpIeraW8 (d : Byte) (s : State) : Host.Outcome State Fault Refusal :=
  .next { s with mfp := s.mfp.writeIera d }

/-- MFP_IERB_R8 (R360): offset 0x09. -/
def execMfpIerbR8 (s : State) : Host.Outcome State Fault Refusal :=
  .next (s.give (.byte s.mfp.ierb))

/-- MFP_IERB_W8 (R361): offset 0x09. -/
def execMfpIerbW8 (d : Byte) (s : State) : Host.Outcome State Fault Refusal :=
  .next { s with mfp := s.mfp.writeIerb d }

/-- MFP_IPRA_R8 (R362): offset 0x0B. -/
def execMfpIpraR8 (s : State) : Host.Outcome State Fault Refusal :=
  .next (s.give (.byte 0x00))

/-- MFP_IPRA_W8 (R363): offset 0x0B, ignored. -/
def execMfpIpraW8 (_d : Byte) (s : State) : Host.Outcome State Fault Refusal :=
  .next s

/-- MFP_IPRB_R8 (R364): offset 0x0D. -/
def execMfpIprbR8 (s : State) : Host.Outcome State Fault Refusal :=
  .next (s.give (.byte 0x00))

/-- MFP_IPRB_W8 (R365): offset 0x0D, ignored. -/
def execMfpIprbW8 (_d : Byte) (s : State) : Host.Outcome State Fault Refusal :=
  .next s

/-- MFP_ISRA_R8 (R366): offset 0x0F. -/
def execMfpIsraR8 (s : State) : Host.Outcome State Fault Refusal :=
  .next (s.give (.byte 0x00))

/-- MFP_ISRA_W8 (R367): offset 0x0F, ignored. -/
def execMfpIsraW8 (_d : Byte) (s : State) : Host.Outcome State Fault Refusal :=
  .next s

/-- MFP_ISRB_R8 (R368): offset 0x11. -/
def execMfpIsrbR8 (s : State) : Host.Outcome State Fault Refusal :=
  .next (s.give (.byte 0x00))

/-- MFP_ISRB_W8 (R369): offset 0x11, ignored. -/
def execMfpIsrbW8 (_d : Byte) (s : State) : Host.Outcome State Fault Refusal :=
  .next s

/-- MFP_IMRA_R8 (R370): offset 0x13. -/
def execMfpImraR8 (s : State) : Host.Outcome State Fault Refusal :=
  .next (s.give (.byte s.mfp.imra))

/-- MFP_IMRA_W8 (R371): offset 0x13. -/
def execMfpImraW8 (d : Byte) (s : State) : Host.Outcome State Fault Refusal :=
  .next { s with mfp := { s.mfp with imra := d } }

/-- MFP_IMRB_R8 (R372): offset 0x15. -/
def execMfpImrbR8 (s : State) : Host.Outcome State Fault Refusal :=
  .next (s.give (.byte s.mfp.imrb))

/-- MFP_IMRB_W8 (R373): offset 0x15. -/
def execMfpImrbW8 (d : Byte) (s : State) : Host.Outcome State Fault Refusal :=
  .next { s with mfp := { s.mfp with imrb := d } }

/-- MFP_VR_R8 (R374): offset 0x17. -/
def execMfpVrR8 (s : State) : Host.Outcome State Fault Refusal :=
  .next (s.give (.byte s.mfp.vr))

/-- MFP_VR_W8 (R375): offset 0x17. -/
def execMfpVrW8 (d : Byte) (s : State) : Host.Outcome State Fault Refusal :=
  .next { s with mfp := { s.mfp with vr := d } }

/-- MFP_TACR_R8 (R376): offset 0x19. -/
def execMfpTacrR8 (s : State) : Host.Outcome State Fault Refusal :=
  .next (s.give (.byte s.mfp.tacr))

/-- MFP_TACR_W8 (R377): offset 0x19. -/
def execMfpTacrW8 (d : Byte) (s : State) : Host.Outcome State Fault Refusal :=
  .next { s with mfp := s.mfp.writeTacr d }

/-- MFP_TBCR_R8 (R378): offset 0x1B. -/
def execMfpTbcrR8 (s : State) : Host.Outcome State Fault Refusal :=
  .next (s.give (.byte s.mfp.tbcr))

/-- MFP_TBCR_W8 (R379): offset 0x1B. -/
def execMfpTbcrW8 (d : Byte) (s : State) : Host.Outcome State Fault Refusal :=
  .next { s with mfp := s.mfp.writeTbcr d }

/-- MFP_TCDCR_R8 (R380): offset 0x1D. -/
def execMfpTcdcrR8 (s : State) : Host.Outcome State Fault Refusal :=
  .next (s.give (.byte s.mfp.tcdcr))

/-- MFP_TCDCR_W8 (R381): offset 0x1D. -/
def execMfpTcdcrW8 (d : Byte) (s : State) : Host.Outcome State Fault Refusal :=
  .next { s with mfp := s.mfp.writeTcdcr d }

/-- MFP_TADR_R8 (R382): offset 0x1F. -/
def execMfpTadrR8 (s : State) : Host.Outcome State Fault Refusal :=
  .next (s.give (.byte (s.mfp.readData .A)))

/-- MFP_TADR_W8 (R383): offset 0x1F. -/
def execMfpTadrW8 (d : Byte) (s : State) : Host.Outcome State Fault Refusal :=
  .next { s with mfp := s.mfp.writeData .A d }

/-- MFP_TBDR_R8 (R384): offset 0x21. -/
def execMfpTbdrR8 (s : State) : Host.Outcome State Fault Refusal :=
  .next (s.give (.byte (s.mfp.readData .B)))

/-- MFP_TBDR_W8 (R385): offset 0x21. -/
def execMfpTbdrW8 (d : Byte) (s : State) : Host.Outcome State Fault Refusal :=
  .next { s with mfp := s.mfp.writeData .B d }

/-- MFP_TCDR_R8 (R386): offset 0x23. -/
def execMfpTcdrR8 (s : State) : Host.Outcome State Fault Refusal :=
  .next (s.give (.byte (s.mfp.readData .C)))

/-- MFP_TCDR_W8 (R387): offset 0x23. -/
def execMfpTcdrW8 (d : Byte) (s : State) : Host.Outcome State Fault Refusal :=
  .next { s with mfp := s.mfp.writeData .C d }

/-- MFP_TDDR_R8 (R388): offset 0x25. -/
def execMfpTddrR8 (s : State) : Host.Outcome State Fault Refusal :=
  .next (s.give (.byte (s.mfp.readData .D)))

/-- MFP_TDDR_W8 (R389): offset 0x25. -/
def execMfpTddrW8 (d : Byte) (s : State) : Host.Outcome State Fault Refusal :=
  .next { s with mfp := s.mfp.writeData .D d }

/-- MFP_EVEN_R8 (R390): all bits set. -/
def execMfpEvenR8 (_off : Byte) (s : State) : Host.Outcome State Fault Refusal :=
  .next (s.give (.byte 0xFF))

/-- MFP_EVEN_W8 (R391): ignored. -/
def execMfpEvenW8 (_off : Byte) (_d : Byte) (s : State) : Host.Outcome State Fault Refusal :=
  .next s

end Sys2Proof.Machine
end

