-- ==== Sys2Proof/Machine/PsgPorts.lean ====
section
/-! DEFINITION. The sound chip's bus transactions (40_psg R213 to R218) and its sixteen register writes (R240 to R255). -/

namespace Sys2Proof.Machine

/-- PSG_SEL_W8 (R213): selects a register. -/
def execPsgSelW8 (_m : BitVec 6) (d : Byte) (s : State) : Host.Outcome State Fault Refusal :=
  .next { s with psg := s.psg.select d }

/-- PSG_SEL_R8 (R214): the selected register. -/
def execPsgSelR8 (_m : BitVec 6) (s : State) : Host.Outcome State Fault Refusal :=
  .next (s.give (.byte s.psg.portRead))

/-- PSG_DATA_W8 (R215): the write of the selected register (R102). -/
def execPsgDataW8 (_m : BitVec 6) (d : Byte) (s : State) : Host.Outcome State Fault Refusal :=
  .next { s with psg := s.psg.writeReg s.psg.selReg d }

/-- PSG_DATA_R8 (R216): the selected register. -/
def execPsgDataR8 (_m : BitVec 6) (s : State) : Host.Outcome State Fault Refusal :=
  .next (s.give (.byte s.psg.portRead))

/-- PSG_ODD_W8 (R217): ignored. -/
def execPsgOddW8 (_m : BitVec 7) (_d : Byte) (s : State) : Host.Outcome State Fault Refusal :=
  .next s

/-- PSG_ODD_R8 (R218): the even port just below. -/
def execPsgOddR8 (m : BitVec 7) (s : State) : Host.Outcome State Fault Refusal :=
  .next (s.give (.byte (s.psg.read8 (m ++ 1#1))))

/-- PSG_WR_R0 (R240): tone A period, low 8 bits. -/
def execPsgWrR0 (d : Byte) (s : State) : Host.Outcome State Fault Refusal :=
  .next { s with psg := s.psg.writeReg 0 d }

/-- PSG_WR_R1 (R241): tone A period, high 4 bits. -/
def execPsgWrR1 (d : Byte) (s : State) : Host.Outcome State Fault Refusal :=
  .next { s with psg := s.psg.writeReg 1 d }

/-- PSG_WR_R2 (R242): tone B period, low 8 bits. -/
def execPsgWrR2 (d : Byte) (s : State) : Host.Outcome State Fault Refusal :=
  .next { s with psg := s.psg.writeReg 2 d }

/-- PSG_WR_R3 (R243): tone B period, high 4 bits. -/
def execPsgWrR3 (d : Byte) (s : State) : Host.Outcome State Fault Refusal :=
  .next { s with psg := s.psg.writeReg 3 d }

/-- PSG_WR_R4 (R244): tone C period, low 8 bits. -/
def execPsgWrR4 (d : Byte) (s : State) : Host.Outcome State Fault Refusal :=
  .next { s with psg := s.psg.writeReg 4 d }

/-- PSG_WR_R5 (R245): tone C period, high 4 bits. -/
def execPsgWrR5 (d : Byte) (s : State) : Host.Outcome State Fault Refusal :=
  .next { s with psg := s.psg.writeReg 5 d }

/-- PSG_WR_R6 (R246): noise period. -/
def execPsgWrR6 (d : Byte) (s : State) : Host.Outcome State Fault Refusal :=
  .next { s with psg := s.psg.writeReg 6 d }

/-- PSG_WR_R7 (R247): mixer. -/
def execPsgWrR7 (d : Byte) (s : State) : Host.Outcome State Fault Refusal :=
  .next { s with psg := s.psg.writeReg 7 d }

/-- PSG_WR_R8 (R248): level A. -/
def execPsgWrR8 (d : Byte) (s : State) : Host.Outcome State Fault Refusal :=
  .next { s with psg := s.psg.writeReg 8 d }

/-- PSG_WR_R9 (R249): level B. -/
def execPsgWrR9 (d : Byte) (s : State) : Host.Outcome State Fault Refusal :=
  .next { s with psg := s.psg.writeReg 9 d }

/-- PSG_WR_R10 (R250): level C. -/
def execPsgWrR10 (d : Byte) (s : State) : Host.Outcome State Fault Refusal :=
  .next { s with psg := s.psg.writeReg 10 d }

/-- PSG_WR_R11 (R251): envelope period, low 8 bits. -/
def execPsgWrR11 (d : Byte) (s : State) : Host.Outcome State Fault Refusal :=
  .next { s with psg := s.psg.writeReg 11 d }

/-- PSG_WR_R12 (R252): envelope period, high 8 bits. -/
def execPsgWrR12 (d : Byte) (s : State) : Host.Outcome State Fault Refusal :=
  .next { s with psg := s.psg.writeReg 12 d }

/-- PSG_WR_R13 (R253): envelope shape; restarts the envelope. -/
def execPsgWrR13 (d : Byte) (s : State) : Host.Outcome State Fault Refusal :=
  .next { s with psg := s.psg.writeReg 13 d }

/-- PSG_WR_R14 (R254): I/O port A, storage only. -/
def execPsgWrR14 (d : Byte) (s : State) : Host.Outcome State Fault Refusal :=
  .next { s with psg := s.psg.writeReg 14 d }

/-- PSG_WR_R15 (R255): I/O port B, storage only. -/
def execPsgWrR15 (d : Byte) (s : State) : Host.Outcome State Fault Refusal :=
  .next { s with psg := s.psg.writeReg 15 d }

end Sys2Proof.Machine
end

