-- ==== Sys2Proof/Machine/Ram.lean ====
section
/-! DEFINITION. The RAM and open-bus transactions (20_memory R74, R75, R90, R91). -/

namespace Sys2Proof.Machine

/-- RAM_R8 (R74): the RAM byte. -/
def execRamR8 (a : Addr) (s : State) : Host.Outcome State Fault Refusal :=
  .next (s.give (.byte (memRead s.ram a.toNat)))

/-- RAM_W8 (R75): the RAM byte stored. -/
def execRamW8 (a : Addr) (d : Byte) (s : State) : Host.Outcome State Fault Refusal :=
  .next { s with ram := memWrite s.ram a.toNat d }

/-- OPEN_R8 (R90): all bits set, and nothing changes. -/
def execOpenR8 (_a : Addr) (s : State) : Host.Outcome State Fault Refusal :=
  .next (s.give (.byte 0xFF))

/-- OPEN_W8 (R91): ignored. -/
def execOpenW8 (_a : Addr) (_d : Byte) (s : State) : Host.Outcome State Fault Refusal :=
  .next s

end Sys2Proof.Machine
end

