-- ==== Sys2Proof/Machine/Dispatch.lean ====
section
/-! DEFINITION. One arm per operation: its meaning. -/

namespace Sys2Proof.Machine

def exec (i : Instr) (s : State) : Host.Outcome State Fault Refusal :=
  match i with
  | .ramR8 a => Sys2Proof.Machine.execRamR8 a s
  | .ramW8 a d => Sys2Proof.Machine.execRamW8 a d s
  | .psgSelW8 m d => Sys2Proof.Machine.execPsgSelW8 m d s
  | .psgSelR8 m => Sys2Proof.Machine.execPsgSelR8 m s
  | .psgDataW8 m d => Sys2Proof.Machine.execPsgDataW8 m d s
  | .psgDataR8 m => Sys2Proof.Machine.execPsgDataR8 m s
  | .psgOddW8 m d => Sys2Proof.Machine.execPsgOddW8 m d s
  | .psgOddR8 m => Sys2Proof.Machine.execPsgOddR8 m s
  | .dmaCtrlR8 => Sys2Proof.Machine.execDmaCtrlR8 s
  | .dmaCtrlW8 d => Sys2Proof.Machine.execDmaCtrlW8 d s
  | .dmaStartHiR8 => Sys2Proof.Machine.execDmaStartHiR8 s
  | .dmaStartHiW8 d => Sys2Proof.Machine.execDmaStartHiW8 d s
  | .dmaStartMidR8 => Sys2Proof.Machine.execDmaStartMidR8 s
  | .dmaStartMidW8 d => Sys2Proof.Machine.execDmaStartMidW8 d s
  | .dmaStartLoR8 => Sys2Proof.Machine.execDmaStartLoR8 s
  | .dmaStartLoW8 d => Sys2Proof.Machine.execDmaStartLoW8 d s
  | .dmaCntHiR8 => Sys2Proof.Machine.execDmaCntHiR8 s
  | .dmaCntHiW8 d => Sys2Proof.Machine.execDmaCntHiW8 d s
  | .dmaCntMidR8 => Sys2Proof.Machine.execDmaCntMidR8 s
  | .dmaCntMidW8 d => Sys2Proof.Machine.execDmaCntMidW8 d s
  | .dmaCntLoR8 => Sys2Proof.Machine.execDmaCntLoR8 s
  | .dmaCntLoW8 d => Sys2Proof.Machine.execDmaCntLoW8 d s
  | .dmaEndHiR8 => Sys2Proof.Machine.execDmaEndHiR8 s
  | .dmaEndHiW8 d => Sys2Proof.Machine.execDmaEndHiW8 d s
  | .dmaEndMidR8 => Sys2Proof.Machine.execDmaEndMidR8 s
  | .dmaEndMidW8 d => Sys2Proof.Machine.execDmaEndMidW8 d s
  | .dmaEndLoR8 => Sys2Proof.Machine.execDmaEndLoR8 s
  | .dmaEndLoW8 d => Sys2Proof.Machine.execDmaEndLoW8 d s
  | .dmaModeR8 => Sys2Proof.Machine.execDmaModeR8 s
  | .dmaModeW8 d => Sys2Proof.Machine.execDmaModeW8 d s
  | .dmaMwDataHiR8 => Sys2Proof.Machine.execDmaMwDataHiR8 s
  | .dmaMwDataHiW8 d => Sys2Proof.Machine.execDmaMwDataHiW8 d s
  | .dmaMwDataLoR8 => Sys2Proof.Machine.execDmaMwDataLoR8 s
  | .dmaMwDataLoW8 d => Sys2Proof.Machine.execDmaMwDataLoW8 d s
  | .dmaMwMaskHiR8 => Sys2Proof.Machine.execDmaMwMaskHiR8 s
  | .dmaMwMaskHiW8 d => Sys2Proof.Machine.execDmaMwMaskHiW8 d s
  | .dmaMwMaskLoR8 => Sys2Proof.Machine.execDmaMwMaskLoR8 s
  | .dmaMwMaskLoW8 d => Sys2Proof.Machine.execDmaMwMaskLoW8 d s
  | .dmaUnusedR8 off => Sys2Proof.Machine.execDmaUnusedR8 off s
  | .dmaUnusedW8 off d => Sys2Proof.Machine.execDmaUnusedW8 off d s
  | .mfpGpipR8 => Sys2Proof.Machine.execMfpGpipR8 s
  | .mfpGpipW8 d => Sys2Proof.Machine.execMfpGpipW8 d s
  | .mfpAerR8 => Sys2Proof.Machine.execMfpAerR8 s
  | .mfpAerW8 d => Sys2Proof.Machine.execMfpAerW8 d s
  | .mfpDdrR8 => Sys2Proof.Machine.execMfpDdrR8 s
  | .mfpDdrW8 d => Sys2Proof.Machine.execMfpDdrW8 d s
  | .mfpIeraR8 => Sys2Proof.Machine.execMfpIeraR8 s
  | .mfpIeraW8 d => Sys2Proof.Machine.execMfpIeraW8 d s
  | .mfpIerbR8 => Sys2Proof.Machine.execMfpIerbR8 s
  | .mfpIerbW8 d => Sys2Proof.Machine.execMfpIerbW8 d s
  | .mfpIpraR8 => Sys2Proof.Machine.execMfpIpraR8 s
  | .mfpIpraW8 d => Sys2Proof.Machine.execMfpIpraW8 d s
  | .mfpIprbR8 => Sys2Proof.Machine.execMfpIprbR8 s
  | .mfpIprbW8 d => Sys2Proof.Machine.execMfpIprbW8 d s
  | .mfpIsraR8 => Sys2Proof.Machine.execMfpIsraR8 s
  | .mfpIsraW8 d => Sys2Proof.Machine.execMfpIsraW8 d s
  | .mfpIsrbR8 => Sys2Proof.Machine.execMfpIsrbR8 s
  | .mfpIsrbW8 d => Sys2Proof.Machine.execMfpIsrbW8 d s
  | .mfpImraR8 => Sys2Proof.Machine.execMfpImraR8 s
  | .mfpImraW8 d => Sys2Proof.Machine.execMfpImraW8 d s
  | .mfpImrbR8 => Sys2Proof.Machine.execMfpImrbR8 s
  | .mfpImrbW8 d => Sys2Proof.Machine.execMfpImrbW8 d s
  | .mfpVrR8 => Sys2Proof.Machine.execMfpVrR8 s
  | .mfpVrW8 d => Sys2Proof.Machine.execMfpVrW8 d s
  | .mfpTacrR8 => Sys2Proof.Machine.execMfpTacrR8 s
  | .mfpTacrW8 d => Sys2Proof.Machine.execMfpTacrW8 d s
  | .mfpTbcrR8 => Sys2Proof.Machine.execMfpTbcrR8 s
  | .mfpTbcrW8 d => Sys2Proof.Machine.execMfpTbcrW8 d s
  | .mfpTcdcrR8 => Sys2Proof.Machine.execMfpTcdcrR8 s
  | .mfpTcdcrW8 d => Sys2Proof.Machine.execMfpTcdcrW8 d s
  | .mfpTadrR8 => Sys2Proof.Machine.execMfpTadrR8 s
  | .mfpTadrW8 d => Sys2Proof.Machine.execMfpTadrW8 d s
  | .mfpTbdrR8 => Sys2Proof.Machine.execMfpTbdrR8 s
  | .mfpTbdrW8 d => Sys2Proof.Machine.execMfpTbdrW8 d s
  | .mfpTcdrR8 => Sys2Proof.Machine.execMfpTcdrR8 s
  | .mfpTcdrW8 d => Sys2Proof.Machine.execMfpTcdrW8 d s
  | .mfpTddrR8 => Sys2Proof.Machine.execMfpTddrR8 s
  | .mfpTddrW8 d => Sys2Proof.Machine.execMfpTddrW8 d s
  | .mfpEvenR8 off => Sys2Proof.Machine.execMfpEvenR8 off s
  | .mfpEvenW8 off d => Sys2Proof.Machine.execMfpEvenW8 off d s
  | .openR8 a => Sys2Proof.Machine.execOpenR8 a s
  | .openW8 a d => Sys2Proof.Machine.execOpenW8 a d s
  | .psgWrR0 d => Sys2Proof.Machine.execPsgWrR0 d s
  | .psgWrR1 d => Sys2Proof.Machine.execPsgWrR1 d s
  | .psgWrR2 d => Sys2Proof.Machine.execPsgWrR2 d s
  | .psgWrR3 d => Sys2Proof.Machine.execPsgWrR3 d s
  | .psgWrR4 d => Sys2Proof.Machine.execPsgWrR4 d s
  | .psgWrR5 d => Sys2Proof.Machine.execPsgWrR5 d s
  | .psgWrR6 d => Sys2Proof.Machine.execPsgWrR6 d s
  | .psgWrR7 d => Sys2Proof.Machine.execPsgWrR7 d s
  | .psgWrR8 d => Sys2Proof.Machine.execPsgWrR8 d s
  | .psgWrR9 d => Sys2Proof.Machine.execPsgWrR9 d s
  | .psgWrR10 d => Sys2Proof.Machine.execPsgWrR10 d s
  | .psgWrR11 d => Sys2Proof.Machine.execPsgWrR11 d s
  | .psgWrR12 d => Sys2Proof.Machine.execPsgWrR12 d s
  | .psgWrR13 d => Sys2Proof.Machine.execPsgWrR13 d s
  | .psgWrR14 d => Sys2Proof.Machine.execPsgWrR14 d s
  | .psgWrR15 d => Sys2Proof.Machine.execPsgWrR15 d s
  | .sysReset rate => Sys2Proof.Machine.execSysReset rate s
  | .sysSample => Sys2Proof.Machine.execSysSample s
  | .psgReset rate clock => Sys2Proof.Machine.execPsgReset rate clock s
  | .psgTick => Sys2Proof.Machine.execPsgTick s
  | .psgSample => Sys2Proof.Machine.execPsgSample s
  | .mfpReset rate => Sys2Proof.Machine.execMfpReset rate s
  | .mfpTick t => Sys2Proof.Machine.execMfpTick t s
  | .mfpSignal t => Sys2Proof.Machine.execMfpSignal t s
  | .dmaReset rate => Sys2Proof.Machine.execDmaReset rate s
  | .dmaSample => Sys2Proof.Machine.execDmaSample s

end Sys2Proof.Machine
end

