-- ==== Sys2Proof/Machine/Entry.lean ====
section
/-! DEFINITION. What the environment asks for besides single operations: pseudo-instructions (30_encoding R105, R109),
`upload`, `call_and_wait` and `render` (43_sample_step R507 to R509), and the fetch of the next request. -/

namespace Sys2Proof.Machine

/-- A pseudo-instruction, as the byte transactions it expands to (R105, R109). -/
def Pseudo.expand : Pseudo → List BusTx
  | .r16 a => [.read a, .read (a + 1)]
  | .w16 a v => [.write a (v.extractLsb' 8 8), .write (a + 1) (v.extractLsb' 0 8)]
  | .r32 a => [.read a, .read (a + 1), .read (a + 2), .read (a + 2 + 1)]
  | .w32 a v =>
    [.write a (v.extractLsb' 24 8), .write (a + 1) (v.extractLsb' 16 8),
      .write (a + 2) (v.extractLsb' 8 8), .write (a + 2 + 1) (v.extractLsb' 0 8)]
  | .psgw reg d => [.write 0xFF8800 reg, .write 0xFF8802 d]

/-- A pseudo-instruction run whole (R76, R77, R81). -/
def runPseudo (s : State) : Pseudo → State
  | .r16 a => (busRead16 s a).1.give (.half (busRead16 s a).2)
  | .w16 a v => busWrite16 s a v
  | .r32 a => (busRead32 s a).1.give (.long (busRead32 s a).2)
  | .w32 a v => busWrite32 s a v
  | .psgw reg d => busWrite8 (busWrite8 s 0xFF8800 reg) 0xFF8802 d

/-- `upload` (R507): refused with `false` if it would overflow RAM, and the session is then invalid (R601). -/
def runUpload (s : State) (blob : List Byte) (address : Nat) : State :=
  if Config.ramSize < address + blob.length then
    ({ s with sys := { s.sys with invalid := true } } : State).give (.success false)
  else ({ s with ram := memWriteAll s.ram address blob } : State).give (.success true)

/-- `call_and_wait` (R508): a dispatch, and whether the host returned within the budget. -/
def runCall (s : State) (entry : Addr) (arg timeout : Nat) : State :=
  (hostDispatch .call entry arg timeout s.noDispatches).give (.success ((nextRun s).inTime timeout))

/-- Whether the sample about to be made begins the subsong anew (R509): its player tick's number is a positive multiple
of the tick count. -/
def State.loopsNow (s : State) : Bool :=
  s.playerDue && decide (s.song.tickCount ≠ 0 ∧ s.sys.n / s.song.spt ≠ 0
    ∧ s.sys.n / s.song.spt % s.song.tickCount = 0)

/-- One sample of a render, its results appended to the buffers (R509). -/
def renderOne (vis : Bool) (s : State) : State :=
  let r := sampleStep s
  { r.1 with
    env := { r.1.env with
      outBuf := r.1.env.outBuf ++ [r.2]
      visBuf := r.1.env.visBuf ++ (if vis then [r.1.sys.vis] else []) } }

/-- `n` samples of a render, and how often the subsong came round (R509). -/
def renderN (vis : Bool) : Nat → State → State × Nat
  | 0, s => (s, 0)
  | n + 1, s =>
    let rest := renderN vis n (renderOne vis s)
    (rest.1, rest.2 + s.loopsNow.toNat)

/-- `render` (R509). -/
def runRender (s : State) (count : Nat) (vis : Bool) : State :=
  let s0 : State := { s.noDispatches with env := { s.noDispatches.env with outBuf := [], visBuf := [] } }
  (renderN vis count s0).1.give (.loops (renderN vis count s0).2)

/-- The next request taken from the queue (log 1). -/
def takeRequest (s : State) : Option (Request × State) :=
  match s.env.queue with
  | [] => none
  | r :: q => some (r, { s with env := { s.env with queue := q } })

/-- One encoded operation: decoded and run (R101 to R103). -/
def runPacket (s : State) (p : Packet) : Host.Outcome State Fault Refusal :=
  match decode p with
  | .error e => .refused (.undecodable e)
  | .ok i => exec i s

/-- One request run. -/
def runRequest (s : State) : Request → Host.Outcome State Fault Refusal
  | .op p => runPacket s p
  | .pseudo p => .next (runPseudo s p)
  | .upload blob address => .next (runUpload s blob address)
  | .callAndWait entry arg timeout => .next (runCall s entry arg timeout)
  | .render count vis => .next (runRender s count vis)
  | .arguments song => if song.spt = 0 then .refused .samplesPerTickZero else .next { s with song := song }
  | .oracle runs => .next { s with env := { s.env with runs := s.env.runs ++ runs } }
  | .fatal why => .fault (.sessionAborted why)

/-- One step: nothing while no request waits, else the next request, unless the session is invalid (R601). -/
def runNext (s : State) : Host.Outcome State Fault Refusal :=
  if s.sys.invalid then .refused .sessionInvalid
  else
    match takeRequest s with
    | none => .next s
    | some (r, t) => runRequest t r

/-- An encoded operation put at the head of the queue. -/
def putPacket (s : State) (p : Packet) : State :=
  { s with env := { s.env with queue := .op p :: s.env.queue } }

end Sys2Proof.Machine
end

