-- ==== Sys2Proof/Machine/Step.lean ====
section
/-! DEFINITION. The step, and the host's way to place an instruction where the step fetches it. -/

namespace Sys2Proof.Machine

/-- One step of the machine: the next request of the environment (log 1). -/
def step (s : State) : Host.Outcome State Fault Refusal := runNext s

/-- The instruction whose bits are `w` placed as the next request. -/
def State.withFetchWord (s : State) (nbits w : Nat) : State := putPacket s (packetOfBits nbits w)

end Sys2Proof.Machine
end

