-- ==== Sys2Proof/Machine/Table.lean ====
section
/-! DEFINITION. The BUS8 rows of spec/opcode_table.json as data, in table order, and the first-match reading of the table
that 30_encoding R101 describes. The decoder is written from the address map instead; an obligation says the two agree. -/

namespace Sys2Proof

/-- One BUS8 row (R101): its mask and match over the 26-bit key, its address range (the whole space where the table gives
none), and the group of R101's order it belongs to. -/
structure BusRow where
  mnemonic : String
  mask : BitVec 26
  pattern : BitVec 26
  lo : Nat
  hi : Nat
  group : Region
deriving DecidableEq, Repr

/-- Whether a row matches a key (R101). -/
def BusRow.selects (r : BusRow) (k : BitVec 26) : Bool :=
  k &&& r.mask == r.pattern && decide (r.lo ≤ k.toNat % 2 ^ 24) && decide (k.toNat % 2 ^ 24 ≤ r.hi)

/-- The RAM rows. -/
def ramRows : List BusRow :=
  [⟨"RAM_R8", 0x3000000, 0x0000000, 0x000000, Config.ramSize - 1, .ram⟩,
   ⟨"RAM_W8", 0x3000000, 0x2000000, 0x000000, Config.ramSize - 1, .ram⟩]

/-- The sound-chip rows. -/
def psgRows : List BusRow :=
  [⟨"PSG_SEL_W8", 0x3FFFF03, 0x2FF8800, 0, 0xFFFFFF, .psg⟩,
   ⟨"PSG_SEL_R8", 0x3FFFF03, 0x0FF8800, 0, 0xFFFFFF, .psg⟩,
   ⟨"PSG_DATA_W8", 0x3FFFF03, 0x2FF8802, 0, 0xFFFFFF, .psg⟩,
   ⟨"PSG_DATA_R8", 0x3FFFF03, 0x0FF8802, 0, 0xFFFFFF, .psg⟩,
   ⟨"PSG_ODD_W8", 0x3FFFF01, 0x2FF8801, 0, 0xFFFFFF, .psg⟩,
   ⟨"PSG_ODD_R8", 0x3FFFF01, 0x0FF8801, 0, 0xFFFFFF, .psg⟩]

/-- The DMA-PCM rows: specific registers, then the catch-all. -/
def dmaRows : List BusRow :=
  [⟨"DMA_CTRL_R8", 0x3FFFFFF, 0x0FF8901, 0, 0xFFFFFF, .dma⟩,
   ⟨"DMA_CTRL_W8", 0x3FFFFFF, 0x2FF8901, 0, 0xFFFFFF, .dma⟩,
   ⟨"DMA_START_HI_R8", 0x3FFFFFF, 0x0FF8903, 0, 0xFFFFFF, .dma⟩,
   ⟨"DMA_START_HI_W8", 0x3FFFFFF, 0x2FF8903, 0, 0xFFFFFF, .dma⟩,
   ⟨"DMA_START_MID_R8", 0x3FFFFFF, 0x0FF8905, 0, 0xFFFFFF, .dma⟩,
   ⟨"DMA_START_MID_W8", 0x3FFFFFF, 0x2FF8905, 0, 0xFFFFFF, .dma⟩,
   ⟨"DMA_START_LO_R8", 0x3FFFFFF, 0x0FF8907, 0, 0xFFFFFF, .dma⟩,
   ⟨"DMA_START_LO_W8", 0x3FFFFFF, 0x2FF8907, 0, 0xFFFFFF, .dma⟩,
   ⟨"DMA_CNT_HI_R8", 0x3FFFFFF, 0x0FF8909, 0, 0xFFFFFF, .dma⟩,
   ⟨"DMA_CNT_HI_W8", 0x3FFFFFF, 0x2FF8909, 0, 0xFFFFFF, .dma⟩,
   ⟨"DMA_CNT_MID_R8", 0x3FFFFFF, 0x0FF890B, 0, 0xFFFFFF, .dma⟩,
   ⟨"DMA_CNT_MID_W8", 0x3FFFFFF, 0x2FF890B, 0, 0xFFFFFF, .dma⟩,
   ⟨"DMA_CNT_LO_R8", 0x3FFFFFF, 0x0FF890D, 0, 0xFFFFFF, .dma⟩,
   ⟨"DMA_CNT_LO_W8", 0x3FFFFFF, 0x2FF890D, 0, 0xFFFFFF, .dma⟩,
   ⟨"DMA_END_HI_R8", 0x3FFFFFF, 0x0FF890F, 0, 0xFFFFFF, .dma⟩,
   ⟨"DMA_END_HI_W8", 0x3FFFFFF, 0x2FF890F, 0, 0xFFFFFF, .dma⟩,
   ⟨"DMA_END_MID_R8", 0x3FFFFFF, 0x0FF8911, 0, 0xFFFFFF, .dma⟩,
   ⟨"DMA_END_MID_W8", 0x3FFFFFF, 0x2FF8911, 0, 0xFFFFFF, .dma⟩,
   ⟨"DMA_END_LO_R8", 0x3FFFFFF, 0x0FF8913, 0, 0xFFFFFF, .dma⟩,
   ⟨"DMA_END_LO_W8", 0x3FFFFFF, 0x2FF8913, 0, 0xFFFFFF, .dma⟩,
   ⟨"DMA_MODE_R8", 0x3FFFFFF, 0x0FF8921, 0, 0xFFFFFF, .dma⟩,
   ⟨"DMA_MODE_W8", 0x3FFFFFF, 0x2FF8921, 0, 0xFFFFFF, .dma⟩,
   ⟨"DMA_MW_DATA_HI_R8", 0x3FFFFFF, 0x0FF8922, 0, 0xFFFFFF, .dma⟩,
   ⟨"DMA_MW_DATA_HI_W8", 0x3FFFFFF, 0x2FF8922, 0, 0xFFFFFF, .dma⟩,
   ⟨"DMA_MW_DATA_LO_R8", 0x3FFFFFF, 0x0FF8923, 0, 0xFFFFFF, .dma⟩,
   ⟨"DMA_MW_DATA_LO_W8", 0x3FFFFFF, 0x2FF8923, 0, 0xFFFFFF, .dma⟩,
   ⟨"DMA_MW_MASK_HI_R8", 0x3FFFFFF, 0x0FF8924, 0, 0xFFFFFF, .dma⟩,
   ⟨"DMA_MW_MASK_HI_W8", 0x3FFFFFF, 0x2FF8924, 0, 0xFFFFFF, .dma⟩,
   ⟨"DMA_MW_MASK_LO_R8", 0x3FFFFFF, 0x0FF8925, 0, 0xFFFFFF, .dma⟩,
   ⟨"DMA_MW_MASK_LO_W8", 0x3FFFFFF, 0x2FF8925, 0, 0xFFFFFF, .dma⟩,
   ⟨"DMA_UNUSED_R8", 0x3FFFF00, 0x0FF8900, 0xFF8900, 0xFF8925, .dma⟩,
   ⟨"DMA_UNUSED_W8", 0x3FFFF00, 0x2FF8900, 0xFF8900, 0xFF8925, .dma⟩]

/-- The timer rows: specific registers, then the catch-all. -/
def mfpRows : List BusRow :=
  [⟨"MFP_GPIP_R8", 0x3FFFFFF, 0x0FFFA01, 0, 0xFFFFFF, .mfp⟩,
   ⟨"MFP_GPIP_W8", 0x3FFFFFF, 0x2FFFA01, 0, 0xFFFFFF, .mfp⟩,
   ⟨"MFP_AER_R8", 0x3FFFFFF, 0x0FFFA03, 0, 0xFFFFFF, .mfp⟩,
   ⟨"MFP_AER_W8", 0x3FFFFFF, 0x2FFFA03, 0, 0xFFFFFF, .mfp⟩,
   ⟨"MFP_DDR_R8", 0x3FFFFFF, 0x0FFFA05, 0, 0xFFFFFF, .mfp⟩,
   ⟨"MFP_DDR_W8", 0x3FFFFFF, 0x2FFFA05, 0, 0xFFFFFF, .mfp⟩,
   ⟨"MFP_IERA_R8", 0x3FFFFFF, 0x0FFFA07, 0, 0xFFFFFF, .mfp⟩,
   ⟨"MFP_IERA_W8", 0x3FFFFFF, 0x2FFFA07, 0, 0xFFFFFF, .mfp⟩,
   ⟨"MFP_IERB_R8", 0x3FFFFFF, 0x0FFFA09, 0, 0xFFFFFF, .mfp⟩,
   ⟨"MFP_IERB_W8", 0x3FFFFFF, 0x2FFFA09, 0, 0xFFFFFF, .mfp⟩,
   ⟨"MFP_IPRA_R8", 0x3FFFFFF, 0x0FFFA0B, 0, 0xFFFFFF, .mfp⟩,
   ⟨"MFP_IPRA_W8", 0x3FFFFFF, 0x2FFFA0B, 0, 0xFFFFFF, .mfp⟩,
   ⟨"MFP_IPRB_R8", 0x3FFFFFF, 0x0FFFA0D, 0, 0xFFFFFF, .mfp⟩,
   ⟨"MFP_IPRB_W8", 0x3FFFFFF, 0x2FFFA0D, 0, 0xFFFFFF, .mfp⟩,
   ⟨"MFP_ISRA_R8", 0x3FFFFFF, 0x0FFFA0F, 0, 0xFFFFFF, .mfp⟩,
   ⟨"MFP_ISRA_W8", 0x3FFFFFF, 0x2FFFA0F, 0, 0xFFFFFF, .mfp⟩,
   ⟨"MFP_ISRB_R8", 0x3FFFFFF, 0x0FFFA11, 0, 0xFFFFFF, .mfp⟩,
   ⟨"MFP_ISRB_W8", 0x3FFFFFF, 0x2FFFA11, 0, 0xFFFFFF, .mfp⟩,
   ⟨"MFP_IMRA_R8", 0x3FFFFFF, 0x0FFFA13, 0, 0xFFFFFF, .mfp⟩,
   ⟨"MFP_IMRA_W8", 0x3FFFFFF, 0x2FFFA13, 0, 0xFFFFFF, .mfp⟩,
   ⟨"MFP_IMRB_R8", 0x3FFFFFF, 0x0FFFA15, 0, 0xFFFFFF, .mfp⟩,
   ⟨"MFP_IMRB_W8", 0x3FFFFFF, 0x2FFFA15, 0, 0xFFFFFF, .mfp⟩,
   ⟨"MFP_VR_R8", 0x3FFFFFF, 0x0FFFA17, 0, 0xFFFFFF, .mfp⟩,
   ⟨"MFP_VR_W8", 0x3FFFFFF, 0x2FFFA17, 0, 0xFFFFFF, .mfp⟩,
   ⟨"MFP_TACR_R8", 0x3FFFFFF, 0x0FFFA19, 0, 0xFFFFFF, .mfp⟩,
   ⟨"MFP_TACR_W8", 0x3FFFFFF, 0x2FFFA19, 0, 0xFFFFFF, .mfp⟩,
   ⟨"MFP_TBCR_R8", 0x3FFFFFF, 0x0FFFA1B, 0, 0xFFFFFF, .mfp⟩,
   ⟨"MFP_TBCR_W8", 0x3FFFFFF, 0x2FFFA1B, 0, 0xFFFFFF, .mfp⟩,
   ⟨"MFP_TCDCR_R8", 0x3FFFFFF, 0x0FFFA1D, 0, 0xFFFFFF, .mfp⟩,
   ⟨"MFP_TCDCR_W8", 0x3FFFFFF, 0x2FFFA1D, 0, 0xFFFFFF, .mfp⟩,
   ⟨"MFP_TADR_R8", 0x3FFFFFF, 0x0FFFA1F, 0, 0xFFFFFF, .mfp⟩,
   ⟨"MFP_TADR_W8", 0x3FFFFFF, 0x2FFFA1F, 0, 0xFFFFFF, .mfp⟩,
   ⟨"MFP_TBDR_R8", 0x3FFFFFF, 0x0FFFA21, 0, 0xFFFFFF, .mfp⟩,
   ⟨"MFP_TBDR_W8", 0x3FFFFFF, 0x2FFFA21, 0, 0xFFFFFF, .mfp⟩,
   ⟨"MFP_TCDR_R8", 0x3FFFFFF, 0x0FFFA23, 0, 0xFFFFFF, .mfp⟩,
   ⟨"MFP_TCDR_W8", 0x3FFFFFF, 0x2FFFA23, 0, 0xFFFFFF, .mfp⟩,
   ⟨"MFP_TDDR_R8", 0x3FFFFFF, 0x0FFFA25, 0, 0xFFFFFF, .mfp⟩,
   ⟨"MFP_TDDR_W8", 0x3FFFFFF, 0x2FFFA25, 0, 0xFFFFFF, .mfp⟩,
   ⟨"MFP_EVEN_R8", 0x3FFFF01, 0x0FFFA00, 0xFFFA00, 0xFFFA24, .mfp⟩,
   ⟨"MFP_EVEN_W8", 0x3FFFF01, 0x2FFFA00, 0xFFFA00, 0xFFFA24, .mfp⟩]

/-- The open-bus rows. -/
def openBusRows : List BusRow :=
  [⟨"OPEN_R8", 0x3000000, 0x0000000, 0, 0xFFFFFF, .openBus⟩,
   ⟨"OPEN_W8", 0x3000000, 0x2000000, 0, 0xFFFFFF, .openBus⟩]

/-- The BUS8 rows in table order (R101). -/
def busTable : List BusRow :=
  ramRows ++ psgRows ++ dmaRows ++ mfpRows ++ openBusRows

/-- The row R101 selects: the first that matches. -/
def selectRow (k : BitVec 26) : Option BusRow := busTable.find? fun r => r.selects k

/-- The table's mnemonic of an operation. -/
def Instr.mnemonic : Instr → String
  | .ramR8 _ => "RAM_R8"
  | .ramW8 _ _ => "RAM_W8"
  | .psgSelW8 _ _ => "PSG_SEL_W8"
  | .psgSelR8 _ => "PSG_SEL_R8"
  | .psgDataW8 _ _ => "PSG_DATA_W8"
  | .psgDataR8 _ => "PSG_DATA_R8"
  | .psgOddW8 _ _ => "PSG_ODD_W8"
  | .psgOddR8 _ => "PSG_ODD_R8"
  | .dmaCtrlR8 => "DMA_CTRL_R8"
  | .dmaCtrlW8 _ => "DMA_CTRL_W8"
  | .dmaStartHiR8 => "DMA_START_HI_R8"
  | .dmaStartHiW8 _ => "DMA_START_HI_W8"
  | .dmaStartMidR8 => "DMA_START_MID_R8"
  | .dmaStartMidW8 _ => "DMA_START_MID_W8"
  | .dmaStartLoR8 => "DMA_START_LO_R8"
  | .dmaStartLoW8 _ => "DMA_START_LO_W8"
  | .dmaCntHiR8 => "DMA_CNT_HI_R8"
  | .dmaCntHiW8 _ => "DMA_CNT_HI_W8"
  | .dmaCntMidR8 => "DMA_CNT_MID_R8"
  | .dmaCntMidW8 _ => "DMA_CNT_MID_W8"
  | .dmaCntLoR8 => "DMA_CNT_LO_R8"
  | .dmaCntLoW8 _ => "DMA_CNT_LO_W8"
  | .dmaEndHiR8 => "DMA_END_HI_R8"
  | .dmaEndHiW8 _ => "DMA_END_HI_W8"
  | .dmaEndMidR8 => "DMA_END_MID_R8"
  | .dmaEndMidW8 _ => "DMA_END_MID_W8"
  | .dmaEndLoR8 => "DMA_END_LO_R8"
  | .dmaEndLoW8 _ => "DMA_END_LO_W8"
  | .dmaModeR8 => "DMA_MODE_R8"
  | .dmaModeW8 _ => "DMA_MODE_W8"
  | .dmaMwDataHiR8 => "DMA_MW_DATA_HI_R8"
  | .dmaMwDataHiW8 _ => "DMA_MW_DATA_HI_W8"
  | .dmaMwDataLoR8 => "DMA_MW_DATA_LO_R8"
  | .dmaMwDataLoW8 _ => "DMA_MW_DATA_LO_W8"
  | .dmaMwMaskHiR8 => "DMA_MW_MASK_HI_R8"
  | .dmaMwMaskHiW8 _ => "DMA_MW_MASK_HI_W8"
  | .dmaMwMaskLoR8 => "DMA_MW_MASK_LO_R8"
  | .dmaMwMaskLoW8 _ => "DMA_MW_MASK_LO_W8"
  | .dmaUnusedR8 _ => "DMA_UNUSED_R8"
  | .dmaUnusedW8 _ _ => "DMA_UNUSED_W8"
  | .mfpGpipR8 => "MFP_GPIP_R8"
  | .mfpGpipW8 _ => "MFP_GPIP_W8"
  | .mfpAerR8 => "MFP_AER_R8"
  | .mfpAerW8 _ => "MFP_AER_W8"
  | .mfpDdrR8 => "MFP_DDR_R8"
  | .mfpDdrW8 _ => "MFP_DDR_W8"
  | .mfpIeraR8 => "MFP_IERA_R8"
  | .mfpIeraW8 _ => "MFP_IERA_W8"
  | .mfpIerbR8 => "MFP_IERB_R8"
  | .mfpIerbW8 _ => "MFP_IERB_W8"
  | .mfpIpraR8 => "MFP_IPRA_R8"
  | .mfpIpraW8 _ => "MFP_IPRA_W8"
  | .mfpIprbR8 => "MFP_IPRB_R8"
  | .mfpIprbW8 _ => "MFP_IPRB_W8"
  | .mfpIsraR8 => "MFP_ISRA_R8"
  | .mfpIsraW8 _ => "MFP_ISRA_W8"
  | .mfpIsrbR8 => "MFP_ISRB_R8"
  | .mfpIsrbW8 _ => "MFP_ISRB_W8"
  | .mfpImraR8 => "MFP_IMRA_R8"
  | .mfpImraW8 _ => "MFP_IMRA_W8"
  | .mfpImrbR8 => "MFP_IMRB_R8"
  | .mfpImrbW8 _ => "MFP_IMRB_W8"
  | .mfpVrR8 => "MFP_VR_R8"
  | .mfpVrW8 _ => "MFP_VR_W8"
  | .mfpTacrR8 => "MFP_TACR_R8"
  | .mfpTacrW8 _ => "MFP_TACR_W8"
  | .mfpTbcrR8 => "MFP_TBCR_R8"
  | .mfpTbcrW8 _ => "MFP_TBCR_W8"
  | .mfpTcdcrR8 => "MFP_TCDCR_R8"
  | .mfpTcdcrW8 _ => "MFP_TCDCR_W8"
  | .mfpTadrR8 => "MFP_TADR_R8"
  | .mfpTadrW8 _ => "MFP_TADR_W8"
  | .mfpTbdrR8 => "MFP_TBDR_R8"
  | .mfpTbdrW8 _ => "MFP_TBDR_W8"
  | .mfpTcdrR8 => "MFP_TCDR_R8"
  | .mfpTcdrW8 _ => "MFP_TCDR_W8"
  | .mfpTddrR8 => "MFP_TDDR_R8"
  | .mfpTddrW8 _ => "MFP_TDDR_W8"
  | .mfpEvenR8 _ => "MFP_EVEN_R8"
  | .mfpEvenW8 _ _ => "MFP_EVEN_W8"
  | .openR8 _ => "OPEN_R8"
  | .openW8 _ _ => "OPEN_W8"
  | .psgWrR0 _ => "PSG_WR_R0"
  | .psgWrR1 _ => "PSG_WR_R1"
  | .psgWrR2 _ => "PSG_WR_R2"
  | .psgWrR3 _ => "PSG_WR_R3"
  | .psgWrR4 _ => "PSG_WR_R4"
  | .psgWrR5 _ => "PSG_WR_R5"
  | .psgWrR6 _ => "PSG_WR_R6"
  | .psgWrR7 _ => "PSG_WR_R7"
  | .psgWrR8 _ => "PSG_WR_R8"
  | .psgWrR9 _ => "PSG_WR_R9"
  | .psgWrR10 _ => "PSG_WR_R10"
  | .psgWrR11 _ => "PSG_WR_R11"
  | .psgWrR12 _ => "PSG_WR_R12"
  | .psgWrR13 _ => "PSG_WR_R13"
  | .psgWrR14 _ => "PSG_WR_R14"
  | .psgWrR15 _ => "PSG_WR_R15"
  | .sysReset _ => "SYS_RESET"
  | .sysSample => "SYS_SAMPLE"
  | .psgReset _ _ => "PSG_RESET"
  | .psgTick => "PSG_TICK"
  | .psgSample => "PSG_SAMPLE"
  | .mfpReset _ => "MFP_RESET"
  | .mfpTick _ => "MFP_TICK"
  | .mfpSignal _ => "MFP_SIGNAL"
  | .dmaReset _ => "DMA_RESET"
  | .dmaSample => "DMA_SAMPLE"

end Sys2Proof
end

