-- ==== Sys2Proof/Safety.lean ====
section
/-! DEFINITION. What a sound machine state is: the ranges the spec gives the pieces of state (10_state R22 to R38), each
kept by every step. -/

namespace Sys2Proof.Machine

/-- The RAM list is in its canonical form (R38). -/
def RamOk (s : State) : Prop := Memory.wf s.ram = true

/-- The sum of the ring buffer's slots (R29). -/
def dcTotal (b : List (Nat × Nat)) : Nat := (b.map Prod.snd).sum

/-- Every cell of the sound chip is within its register's width (R22). -/
def Psg.masked (p : Psg) : Prop := ∀ n : Fin 16, p.reg n &&& psgMask n = p.reg n

/-- The ranges of the sound chip's state (R22 to R29). -/
structure PsgOk (p : Psg) : Prop where
  masked : p.masked
  tones : ∀ v, (p.tones.get v).cnt ≤ 4096
  noiseCnt : p.noiseCnt ≤ 32
  lfsr : p.lfsr ≠ 0
  envCnt : p.envCnt ≤ 65536
  envPos : p.envPos ≤ 95
  host : 1 ≤ p.host
  resAcc : p.resAcc < p.host
  dcForm : sparseWfFrom 0 0 p.dcBuf = true
  dcSlots : ∀ c ∈ p.dcBuf, c.1 < Config.dcLen ∧ c.2 ≤ 3 * 65535
  dcSum : p.dcSum = dcTotal p.dcBuf
  dcIdx : p.dcIdx < Config.dcLen

/-- The ranges of the timer controller's state (R30, R33). -/
structure MfpOk (m : Mfp) : Prop where
  host : 1 ≤ m.host
  tacr : m.tacr &&& 0x0F = m.tacr
  tbcr : m.tbcr &&& 0x0F = m.tbcr
  tcdcr : m.tcdcr &&& 0x77 = m.tcdcr
  counters : ∀ t, 1 ≤ (m.timers.get t).counter ∧ (m.timers.get t).counter ≤ 256
  gpi7 : m.timers.gpi7.reload = 1 ∧ m.timers.gpi7.counter = 1

/-- The ranges of the DMA-PCM channel's state (R35 to R37). -/
structure DmaOk (d : Dma) : Prop where
  host : 1 ≤ d.host
  ctrl : d.ctrl &&& 0x03 = d.ctrl
  mode : d.mode &&& 0x83 = d.mode
  acc : d.acc < d.host
  level : -256 ≤ d.level ∧ d.level ≤ 254
  pair : if d.parity then -256 ≤ d.avgAcc ∧ d.avgAcc ≤ 254 else d.avgAcc = 0
  mwPending : d.mwPending ≤ 16
  masterVol : d.masterVol ≤ 64

/-- The whole machine is sound. -/
structure Sound (s : State) : Prop where
  ram : RamOk s
  psg : PsgOk s.psg
  mfp : MfpOk s.mfp
  dma : DmaOk s.dma
  spt : 1 ≤ s.song.spt

end Sys2Proof.Machine
end

