-- ==== Sys2Proof/Certificates/Slice0/Obligations.lean ====
section
/-! DEFINITION. The statements for the provers, each formalising numbered rules of spec/. The helpers under
`Sys2Proof.Stated` write the spec's loops and relations out a second time, so that a statement compares the model with the
rule's own words. -/

namespace Sys2Proof.Stated

open Sys2Proof.Machine

/-! Runs. -/

/-- `n` executions of one operation. -/
def after (i : Instr) : Nat → State → Option State
  | 0, s => some s
  | n + 1, s =>
    match exec i s with
    | .next t => after i n t
    | _ => none

/-- `n` steps of the machine. -/
def run : Nat → State → Option State
  | 0, s => some s
  | n + 1, s =>
    match step s with
    | .next t => run n t
    | _ => none

/-- `n` output samples, with the results and the diagnostic words in order. -/
def samples : Nat → State → Option (State × List Int × List (BitVec 32))
  | 0, s => some (s, [], [])
  | n + 1, s =>
    match exec .sysSample s with
    | .next t =>
      match t.out, samples n t with
      | .sample v, some (u, vs, ws) => some (u, v :: vs, t.sys.vis :: ws)
      | _, _ => none
    | _ => none

/-- The state with the head of the queue gone. -/
def dequeued (s : State) (q : List Request) : State := { s with env := { s.env with queue := q } }

/-! The sound chip. -/

/-- The row `PSG_WR_R<n>` (40_psg R240 to R255). -/
def registerWrite (n : Fin 16) (d : Byte) : Instr :=
  match n.val with
  | 0 => .psgWrR0 d
  | 1 => .psgWrR1 d
  | 2 => .psgWrR2 d
  | 3 => .psgWrR3 d
  | 4 => .psgWrR4 d
  | 5 => .psgWrR5 d
  | 6 => .psgWrR6 d
  | 7 => .psgWrR7 d
  | 8 => .psgWrR8 d
  | 9 => .psgWrR9 d
  | 10 => .psgWrR10 d
  | 11 => .psgWrR11 d
  | 12 => .psgWrR12 d
  | 13 => .psgWrR13 d
  | 14 => .psgWrR14 d
  | _ => .psgWrR15 d

/-- `MASK[n]` (10_state R22), written out. -/
def registerMask (n : Fin 16) : Byte :=
  match n.val with
  | 0 => 0xFF
  | 1 => 0x0F
  | 2 => 0xFF
  | 3 => 0x0F
  | 4 => 0xFF
  | 5 => 0x0F
  | 6 => 0x1F
  | 7 => 0xFF
  | 8 => 0x1F
  | 9 => 0x1F
  | 10 => 0x1F
  | 11 => 0xFF
  | 12 => 0xFF
  | 13 => 0x0F
  | 14 => 0xFF
  | _ => 0xFF

/-- `TONE_STEP` (R221). -/
def ToneRule (period : Nat) (x y : Tone) : Prop :=
  if period ≤ x.cnt + 1 then y.cnt = 0 ∧ y.edge = !x.edge else y.cnt = x.cnt + 1 ∧ y.edge = x.edge

/-- `LFSR_STEP` bit by bit (R223). -/
def LfsrRule (r r' : BitVec 17) : Prop :=
  (∀ j, j < 16 → r'.getLsbD j = r.getLsbD (j + 1)) ∧ r'.getLsbD 16 = (r.getLsbD 0 ^^ r.getLsbD 3)

/-- `NOISE_STEP` (R222). -/
def NoiseRule (p q : Psg) : Prop :=
  q.noiseHalf = !p.noiseHalf ∧
    if p.noiseHalf = false ∧ p.noisePeriod ≤ p.noiseCnt + 1 then
      q.noiseCnt = 0 ∧ LfsrRule p.lfsr q.lfsr ∧ q.noiseBit = q.lfsr.getLsbD 0
    else
      q.noiseCnt = (if p.noiseHalf then p.noiseCnt else p.noiseCnt + 1) ∧ q.lfsr = p.lfsr ∧ q.noiseBit = p.noiseBit

/-- `ENV_STEP` (R224). -/
def EnvRule (p q : Psg) : Prop :=
  if p.envPeriod ≤ p.envCnt + 1 then
    q.envCnt = 0 ∧ q.envPos = (if p.envPos = 95 then 32 else p.envPos + 1)
  else q.envCnt = p.envCnt + 1 ∧ q.envPos = p.envPos

/-- The voice that owns a lane of the packed words (R25). -/
def laneVoice (n : Nat) : Voice :=
  match n with
  | 0 => .A
  | 1 => .B
  | _ => .C

/-- The while loop of `RESAMPLE` (R261), at most `n` turns. -/
def resampleLoop : Nat → Psg → Psg
  | 0, p => p
  | n + 1, p =>
    if p.host ≤ p.resAcc then resampleLoop n { p.tick with resAcc := p.resAcc - p.host } else p

/-- `RESAMPLE` (R261). While `host ≥ 1` the loop ends within the fuel it is given. -/
def resample (p : Psg) : Psg :=
  resampleLoop (p.resAcc + p.clk8) { p with resAcc := p.resAcc + p.clk8 }

/-- The part of the chip that only ticks and register writes change. -/
def chip (p : Psg) : Psg := { p with resAcc := 0, dcBuf := [], dcSum := 0, dcIdx := 0 }

/-- `LEVEL_INDEX(v)` (R262), the envelope level taken from R230's function. -/
def levelIndex (p : Psg) (v : Voice) : Nat :=
  if (p.reg (levelReg v)).getLsbD 4 then envLevel p.shape p.envPos else 2 * ((p.reg (levelReg v)).toNat % 16) + 1

/-- `GATED_INDEX(v)` (R263). -/
def gatedIndex (p : Psg) (v : Voice) : Nat :=
  if ((p.tones.get v).edge = true ∨ (p.reg 7).getLsbD (voiceIndex v) = true) ∧
      (p.noiseBit = true ∨ (p.reg 7).getLsbD (3 + voiceIndex v) = true) then levelIndex p v
  else 0

/-- One segment of an envelope shape (R232). -/
inductive Segment where
  | down | up | flat (level : Nat)
deriving DecidableEq, Repr

/-- The level of a segment at index `i` (R232). -/
def Segment.at (x : Segment) (i : Nat) : Nat :=
  match x with
  | .down => 31 - i
  | .up => i
  | .flat n => n

/-- The table of R232: segments 0, 1 and 2 of each shape. -/
def shapeTable (s : Nat) : Segment × Segment × Segment :=
  match s with
  | 0 => (.down, .flat 0, .flat 0)
  | 1 => (.down, .flat 0, .flat 0)
  | 2 => (.down, .flat 0, .flat 0)
  | 3 => (.down, .flat 0, .flat 0)
  | 4 => (.up, .flat 0, .flat 0)
  | 5 => (.up, .flat 0, .flat 0)
  | 6 => (.up, .flat 0, .flat 0)
  | 7 => (.up, .flat 0, .flat 0)
  | 8 => (.down, .down, .down)
  | 9 => (.down, .flat 0, .flat 0)
  | 10 => (.down, .up, .down)
  | 11 => (.down, .flat 31, .flat 31)
  | 12 => (.up, .up, .up)
  | 13 => (.up, .flat 31, .flat 31)
  | 14 => (.up, .down, .up)
  | _ => (.up, .flat 0, .flat 0)

/-! The timer controller. -/

/-- `RELOAD(t)` (R33). -/
def reload (x : Timer) : Nat := if x.reload = 0 then 256 else x.reload.toNat

/-- What an enable write does to the timers (R320). -/
def EnableRule (m n : Mfp) : Prop :=
  ∀ t, n.timers.get t =
    if m.en t = false ∧ n.en t = true ∧ n.delay t = true then
      { m.timers.get t with counter := reload (m.timers.get t), acc := 0 }
    else m.timers.get t

/-- What a control write does to the timers, `ts` those its register controls (R321). -/
def ControlRule (ts : List TimerId) (m n : Mfp) : Prop :=
  ∀ t, n.timers.get t =
    if t ∈ ts ∧ m.counting t = false ∧ n.counting t = true then { m.timers.get t with acc := 0 }
    else m.timers.get t

/-- `COUNT_DOWN` (R330). -/
def countDown (x : Timer) : Timer × Bool :=
  if x.counter = 1 then ({ x with counter := reload x }, true) else ({ x with counter := x.counter - 1 }, false)

/-- The while loop of a delay-mode tick (R330), at most `n` turns. -/
def delayLoop (unit : Nat) : Nat → Timer → Bool → Timer × Bool
  | 0, x, fired => (x, fired)
  | n + 1, x, fired =>
    if unit ≤ x.acc then
      let r := countDown { x with acc := x.acc - unit }
      delayLoop unit n r.1 (r.2 || fired)
    else (x, fired)

/-- `MFP_TICK(t)` (R330) up to the clearing of the event flag: the timer, and `fired`. While `host ≥ 1` the loop ends
within the fuel it is given. -/
def tickTimer (m : Mfp) (t : TimerId) : Timer × Bool :=
  let x := m.timers.get t
  if m.en t = true then
    if m.eventMode t = true then (if x.event = true then countDown x else (x, false))
    else if m.delay t = true then
      delayLoop (m.pre t * m.host) (x.acc + Config.mfpClock) { x with acc := x.acc + Config.mfpClock } false
    else (x, false)
  else (x, false)

/-- `VEC(t)` (60_exceptions R611), written out. -/
def vec : TimerId → Addr
  | .A => 0x000134
  | .B => 0x000120
  | .C => 0x000114
  | .D => 0x000110
  | .GPI7 => 0x00013C

/-! The DMA-PCM channel. -/

/-- `FETCH` (R422). -/
def fetch (ram : List Host.Cell) (d : Dma) : Dma × Int :=
  let left := (memRead ram d.cur.toNat).toInt
  if d.mode.getLsbD 7 = true then ({ d with cur := d.cur + 1 }, left)
  else ({ d with cur := d.cur + 2 }, left + (memRead ram (d.cur + 1).toNat).toInt)

/-- What a fetched frame does to the level (R420, R423). -/
def hear (d : Dma) (f : Int) : Dma :=
  if d.mode.getLsbD 1 = true ∧ d.mode.getLsbD 0 = true then
    if d.parity = true then { d with parity := false, level := (d.avgAcc + f) / 2, avgAcc := 0 }
    else { d with parity := true, avgAcc := d.avgAcc + f }
  else { d with level := f }

/-- `BUFFER_END` on the channel (R421). -/
def bufferEnd (d : Dma) : Dma :=
  let e := { d with cur := d.startHi ++ d.startMid ++ d.startLo, endp := d.endHi ++ d.endMid ++ d.endLo }
  if d.ctrl.getLsbD 1 = true then e
  else { e with ctrl := d.ctrl &&& 0xFE, level := 0, acc := 0, avgAcc := 0, parity := false }

/-- `BUFFER_END` on the timers (R421, R340). -/
def endEvents (m : Mfp) : Mfp :=
  { m with timers := { m.timers with
      a := { m.timers.a with event := true }
      gpi7 := { m.timers.gpi7 with event := true } } }

/-- The while loop of `DMA_SAMPLE` (R420), at most `n` turns, with the value it returns. -/
def dmaLoop (ram : List Host.Cell) : Nat → Dma → Mfp → Dma × Mfp × Int
  | 0, d, m => (d, m, d.level * d.masterVol * 4)
  | n + 1, d, m =>
    if d.host ≤ d.acc then
      let r := fetch ram { d with acc := d.acc - d.host }
      let e := hear r.1 r.2
      if e.endp.toNat ≤ e.cur.toNat then
        if (bufferEnd e).ctrl.getLsbD 0 = true then dmaLoop ram n (bufferEnd e) (endEvents m)
        else (bufferEnd e, endEvents m, 0)
      else dmaLoop ram n e m
    else (d, m, d.level * d.masterVol * 4)

/-- `CTRL_WRITE(v)` (R410). -/
def playControl (d : Dma) (v : Byte) : Dma :=
  if d.ctrl.getLsbD 0 = false ∧ v.getLsbD 0 = true then
    { d with
      ctrl := v &&& 0x03
      cur := d.startHi ++ d.startMid ++ d.startLo
      endp := d.endHi ++ d.endMid ++ d.endLo
      acc := 0
      avgAcc := 0
      parity := false
      level := 0 }
  else { d with ctrl := v &&& 0x03 }

/-- `DMA_RATE[0..3]` (00_scope R7), written out. -/
def rate (mode : Byte) : Nat :=
  if mode.getLsbD 1 then (if mode.getLsbD 0 then 50066 else 25033) else (if mode.getLsbD 0 then 12517 else 6258)

/-- `DMA_SAMPLE` (R420). While `host ≥ 1` the loop ends within the fuel it is given. -/
def dmaLoopSample (s : State) : Dma × Mfp × Int :=
  if s.dma.ctrl.getLsbD 0 = true then
    dmaLoop s.ram (s.dma.acc + rate s.dma.mode) { s.dma with acc := s.dma.acc + rate s.dma.mode } s.mfp
  else ({ s.dma with level := 0 }, s.mfp, 0)

/-- The bits of the data word under the mask, most significant first (R440), as bit numbers. -/
def maskBits (mask : BitVec 16) : List Nat :=
  [15, 14, 13, 12, 11, 10, 9, 8, 7, 6, 5, 4, 3, 2, 1, 0].filter fun j => mask.getLsbD j

/-- The command of R440: bit `i` is the `i`-th selected bit from the end of the list. -/
def IsCommand (data mask : BitVec 16) (cmd : BitVec 11) : Prop :=
  ∀ i, i < 11 → cmd.getLsbD i = data.getLsbD ((maskBits mask).reverse.getD i 0)

/-! The host processor. -/

/-- One transaction of the host on the bus, after others: the machine, and the bytes read so far (R74, R75). -/
def transact (r : State × List Byte) (x : BusTx) : State × List Byte :=
  match x with
  | .read a => ((busRead8 r.1 a).1, r.2 ++ [(busRead8 r.1 a).2])
  | .write a v => (busWrite8 r.1 a v, r.2)

/-- Transactions applied at once and in order (R503), and the bytes they read. -/
def transacts (s : State) (xs : List BusTx) : State × List Byte := xs.foldl transact (s, [])

/-- What the host does in the next dispatch: the first planned run, else it returns at once (log 10). -/
def planned (s : State) : HostRun := s.env.runs.headD ⟨[], true⟩

/-- The host reaches its return within the budget (R503, R508; the last allowed step counts, log 27). -/
def returned (r : HostRun) (budget : Nat) : Bool := r.returns && decide (r.steps.length ≤ budget)

/-- `HOST_DISPATCH` (R503): the transactions of the first `budget` host steps on the bus, and the dispatch recorded.
-/
def dispatch (kind : DispatchKind) (target : Addr) (arg budget : Nat) (s : State) : State :=
  let r := transacts s ((planned s).steps.take budget).flatten
  { r.1 with env := { s.env with
      runs := s.env.runs.tail
      dispatched := s.env.dispatched ++ [⟨kind, target, arg, budget, r.2, returned (planned s) budget⟩] } }

/-! The per-sample step. -/

/-- The dispatch of a timer that fired (R505). -/
def irq (fired : Bool) (t : TimerId) (s : State) : State :=
  if fired then dispatch (.irq t) (vec t) 0 s.song.irqBudget s else s

/-- The player tick of a sample (R504). -/
def player (s : State) : State :=
  if s.sys.n % s.song.spt = 0 then dispatch .player s.song.playerEntry 0 s.song.tickBudget s else s

/-- `VIS_WORD` (R512), most significant byte first: the clamped DMA level mod 256, then the coarse levels
`GATED_INDEX(v) >> 1` (R267) of voices C, B and A. -/
def diagnosticWord (p : Psg) (d : Dma) : BitVec 32 :=
  BitVec.ofInt 8 (min (max d.level (-128)) 127) ++ BitVec.ofNat 8 (gatedIndex p .C >>> 1) ++
    BitVec.ofNat 8 (gatedIndex p .B >>> 1) ++ BitVec.ofNat 8 (gatedIndex p .A >>> 1)

/-- `SYS_SAMPLE` (R501). -/
def sysSample (s : State) : State × Int :=
  let s1 := player s
  let a := s1.mfp.tick .A
  let b := a.1.tick .B
  let c := b.1.tick .C
  let d := c.1.tick .D
  let g := d.1.tick .GPI7
  let s2 := irq g.2 .GPI7 (irq d.2 .D (irq c.2 .C (irq b.2 .B (irq a.2 .A { s1 with mfp := g.1 }))))
  let ym := s2.psg.sample
  let dma := Machine.dmaSample s2.ram s2.dma s2.mfp
  ({ s2 with
      psg := ym.1
      dma := dma.1
      mfp := dma.2.1
      sys := { s2.sys with n := s2.sys.n + 1, vis := diagnosticWord ym.1 dma.1 } },
    min (max (ym.2 + dma.2.2) (-32768)) 32767)

/-- What only the device operations and the resets change is the same: no transaction of the host reaches it. -/
def SameClocks (t s : State) : Prop :=
  t.psg.tones = s.psg.tones ∧ t.psg.noiseHalf = s.psg.noiseHalf ∧ t.psg.noiseCnt = s.psg.noiseCnt ∧
  t.psg.lfsr = s.psg.lfsr ∧ t.psg.noiseBit = s.psg.noiseBit ∧ t.psg.resAcc = s.psg.resAcc ∧
  t.psg.clk8 = s.psg.clk8 ∧ t.psg.host = s.psg.host ∧ t.psg.dcBuf = s.psg.dcBuf ∧ t.psg.dcSum = s.psg.dcSum ∧
  t.psg.dcIdx = s.psg.dcIdx ∧ (∀ x ∈ allTimers, (t.mfp.timers.get x).event = (s.mfp.timers.get x).event) ∧
  t.mfp.host = s.mfp.host ∧ t.dma.host = s.dma.host ∧ t.sys = s.sys ∧ t.song = s.song

/-- A transaction that reads. -/
def isRead : BusTx → Bool
  | .read _ => true
  | .write _ _ => false

/-- The state with another diagnostic word. -/
def withVis (s : State) (w : BitVec 32) : State := { s with sys := { s.sys with vis := w } }

/-- The two operations that set the diagnostic word (R501, R700). -/
def setsVis (i : Instr) : Bool :=
  match i with
  | .sysReset _ => true
  | .sysSample => true
  | _ => false

end Sys2Proof.Stated

open Sys2Proof Sys2Proof.Machine Sys2Proof.Stated

/-! Encoding and decoding. -/

/-- R100, R101, R102, R103: keys written out from the spec (the BUS8 ones from the programs of 95_test_vectors) decode
to the operation they stand for. -/
def Obligations.WrittenWordsDecode : Prop :=
  decode ⟨.bus8, 0x2FF8800, 0x07, 0, 0⟩ = .ok (.psgSelW8 0 0x07) ∧
  decode ⟨.bus8, 0x2FF8802, 0x3E, 0, 0⟩ = .ok (.psgDataW8 0 0x3E) ∧
  decode ⟨.bus8, 0x0FF8800, 0, 0, 0⟩ = .ok (.psgSelR8 0) ∧
  decode ⟨.bus8, 0x2FF8804, 0x1D, 0, 0⟩ = .ok (.psgSelW8 1 0x1D) ∧
  decode ⟨.bus8, 0x0FF8803, 0, 0, 0⟩ = .ok (.psgOddR8 1) ∧
  decode ⟨.bus8, 0x2FFFA19, 0x07, 0, 0⟩ = .ok (.mfpTacrW8 0x07) ∧
  decode ⟨.bus8, 0x2FFFA07, 0x20, 0, 0⟩ = .ok (.mfpIeraW8 0x20) ∧
  decode ⟨.bus8, 0x0FFFA06, 0, 0, 0⟩ = .ok (.mfpEvenR8 0x06) ∧
  decode ⟨.bus8, 0x2FF8923, 0xD4, 0, 0⟩ = .ok (.dmaMwDataLoW8 0xD4) ∧
  decode ⟨.bus8, 0x2FF8921, 0x82, 0, 0⟩ = .ok (.dmaModeW8 0x82) ∧
  decode ⟨.bus8, 0x0FF8915, 0, 0, 0⟩ = .ok (.dmaUnusedR8 0x15) ∧
  decode ⟨.bus8, 0x2001000, 0x12, 0, 0⟩ = .ok (.ramW8 0x001000 0x12) ∧
  decode ⟨.bus8, 0x0400000, 0, 0, 0⟩ = .ok (.openR8 0x400000) ∧
  decode ⟨.psgreg, 13, 0x0E, 0, 0⟩ = .ok (.psgWrR13 0x0E) ∧
  decode ⟨.internal, 0b0001, 0, 0, 0⟩ = .ok .sysSample ∧
  decode ⟨.internal, 0b0110010, 0, 0, 0⟩ = .ok (.mfpTick .C) ∧
  decode ⟨.internal, 0b0111100, 0, 0, 0⟩ = .ok (.mfpSignal .GPI7)

/-- R100 to R103: decoding an encoded well-formed operation gives it back, every operand included. -/
def Obligations.DecodeInvertsEncode : Prop :=
  ∀ i : Instr, i.wf = true → decode (encode i) = .ok i

/-- R100 to R103: the decoder answers only operations that meet the operand constraints of their row, each from one
key only, the key its encoding has. -/
def Obligations.EncodeInvertsDecodeOnKeys : Prop :=
  ∀ (p : Packet) (i : Instr), decode p = .ok i → i.wf = true ∧ (encode i).fmt = p.fmt ∧ (encode i).key = p.key

/-- R101: the decoder answers the first row of the opcode table that matches; every byte key has such a row; the last
two rows match every byte key; and the group of the row found is the region of the address. -/
def Obligations.DecoderFollowsTheTable : Prop :=
  ∀ (k : BitVec 26) (d : Byte), k.getLsbD 24 = false →
    (∃ i r, decode ⟨.bus8, k, d, 0, 0⟩ = .ok i ∧ selectRow k = some r ∧ r.mnemonic = i.mnemonic ∧
      r.group = region (k.extractLsb' 0 24)) ∧
    (busTable.drop (busTable.length - 2)).any (fun r => r.selects k) = true

/-- What is given no step. R103, R107 (I8, I9): the codes 0xA to 0xF and the timer operands 5 to 7. R7 (I10): a
HOST_RATE of 0 and a chip clock below 8 in a reset, and host arguments with an SPT of 0. The model's readings: a key
with S = 1 (R100, log 25), a PSGREG key above 15 (R102: four bits), the codes 6 and 7 without a timer operand and the
numbers that are no row's INTERNAL key (log 4). Host arguments come from the queue (log 1). -/
def Obligations.InputsWithNoStep : Prop :=
  ∀ s : State, s.sys.invalid = false →
    (∀ (c : Nat) (p : Packet), 0xA ≤ c → c ≤ 0xF → p.fmt = .internal → p.key = BitVec.ofNat 26 c →
      step (putPacket s p) = .refused (.undecodable .reservedOp)) ∧
    (∀ (op t : Nat) (p : Packet), op = 6 ∨ op = 7 → 5 ≤ t → t ≤ 7 → p.fmt = .internal →
      p.key = BitVec.ofNat 26 (8 * op + t) → step (putPacket s p) = .refused (.undecodable .reservedTimer)) ∧
    (∀ p : Packet, p.fmt = .internal →
      p.key = 6 ∨ p.key = 7 ∨ (0xF < p.key.toNat ∧ p.key.toNat < 0x30) ∨ 0x3F < p.key.toNat →
      step (putPacket s p) = .refused (.undecodable .reservedOp)) ∧
    (∀ p : Packet, p.fmt = .bus8 → p.key.getLsbD 24 = true →
      step (putPacket s p) = .refused (.undecodable .halfwordKey)) ∧
    (∀ p : Packet, p.fmt = .psgreg → 15 < p.key.toNat →
      step (putPacket s p) = .refused (.undecodable .noSuchPsgReg)) ∧
    (∀ (song : Song) (q : List Request), s.env.queue = .arguments song :: q → song.spt = 0 →
      step s = .refused .samplesPerTickZero) ∧
    exec (.sysReset 0) s = .refused .hostRateZero ∧
    exec (.mfpReset 0) s = .refused .hostRateZero ∧
    exec (.dmaReset 0) s = .refused .hostRateZero ∧
    (∀ clock, exec (.psgReset 0 clock) s = .refused .hostRateZero) ∧
    (∀ rate clock, 1 ≤ rate → clock < 8 → exec (.psgReset rate clock) s = .refused .chipClockTooLow)

/-! The step. -/

/-- A step whose next request is a packet that decodes to a well-formed operation runs that operation, on the state
with the request taken from the queue. The queue is the model's (log 1). -/
def Obligations.StepRunsTheDecodedOperation : Prop :=
  ∀ (s : State) (p : Packet) (q : List Request) (i : Instr), s.sys.invalid = false → s.env.queue = .op p :: q →
    decode p = .ok i → i.wf = true → step s = exec i (dequeued s q)

/-- R601 and logs 1, 12, 20: in an invalid session every step is refused; a fatal condition of the host is a fault;
with no request waiting nothing happens. -/
def Obligations.SessionEndsOnFatalConditions : Prop :=
  (∀ s : State, s.sys.invalid = true → step s = .refused .sessionInvalid) ∧
  (∀ (s : State) (why : HostFatal) (q : List Request), s.sys.invalid = false → s.env.queue = .fatal why :: q →
    step s = .fault (.sessionAborted why)) ∧
  (∀ s : State, s.sys.invalid = false → s.env.queue = [] → step s = .next s)

/-- R600: no well-formed operation raises an exception: each completes with a next state. -/
def Obligations.EveryOperationCompletes : Prop :=
  ∀ (i : Instr) (s : State), i.wf = true → ∃ t, exec i s = .next t

/-- R74, R75, R101: a byte read, decoded by the table and run, is `BusRead8` at its address, and a byte write
`BusWrite8`, at every address and for every data value. -/
def Obligations.ByteTransactionsAreBusAccesses : Prop :=
  ∀ (s : State) (a : Addr) (d : Byte), s.sys.invalid = false →
    step (putPacket s ⟨.bus8, 0b00#2 ++ a, d, 0, 0⟩) =
      .next { (busRead8 s a).1 with out := .byte (busRead8 s a).2 } ∧
    step (putPacket s ⟨.bus8, 0b10#2 ++ a, d, 0, 0⟩) = .next (busWrite8 s a d)

/-! Memory. -/

/-- R71, R72 (R74, R75): a RAM read returns the byte and changes no state of the block; a RAM write changes that byte
and no other, and nothing else; at or beyond RAM_SIZE a memory read gives 0xFF and a memory write does nothing. -/
def Obligations.RamReadAndWrite : Prop :=
  (∀ (s : State) (a : Addr) (d : Byte), RamOk s → a.toNat < 4194304 →
    exec (.ramR8 a) s = .next { s with out := .byte (memRead s.ram a.toNat) } ∧
    ∃ t, exec (.ramW8 a d) s = .next t ∧ t = { s with ram := t.ram } ∧
      ∀ b, memRead t.ram b = if b = a.toNat then d else memRead s.ram b) ∧
  ∀ (m : List Host.Cell) (b : Nat) (v : Byte), 4194304 ≤ b → memRead m b = 0xFF ∧ memWrite m b v = m

/-- R90, R91: open bus reads 0xFF and ignores writes; a halfword of it reads 0xFFFF. -/
def Obligations.OpenBus : Prop :=
  ∀ (s : State) (a : Addr) (d : Byte), region a = .openBus →
    exec (.openR8 a) s = .next { s with out := .byte 0xFF } ∧
    exec (.openW8 a d) s = .next s ∧
    (region (a + 1) = .openBus → busRead16 s a = (s, 0xFFFF))

/-- R76, R77, R79: a halfword written to RAM lies with its high byte at the lower address, and reads back. Each access
is a request of the queue, run whole in one step: the model's choice (logs 1, 24). -/
def Obligations.HalfwordsAreBigEndian : Prop :=
  ∀ (s : State) (a : Addr) (v : BitVec 16) (q : List Request), RamOk s → s.sys.invalid = false →
    a.toNat + 1 < 4194304 → s.env.queue = .pseudo (.w16 a v) :: .pseudo (.r16 a) :: q →
    ∃ t, step s = .next t ∧
      (∀ b, memRead t.ram b =
        if b = a.toNat then v.extractLsb' 8 8 else if b = a.toNat + 1 then v.extractLsb' 0 8 else memRead s.ram b) ∧
      step t = .next { dequeued t q with out := .half v }

/-- R76, R77, R81, R105, and R109's PSGW: a halfword, longword or PSGW form is its byte transactions, one after
another, the high byte first, and a read's result is the bytes joined. A request for one runs it whole (logs 1, 24).
-/
def Obligations.WideAccessesAreByteAccesses : Prop :=
  ∀ (s : State) (a : Addr) (v : BitVec 16) (w : BitVec 32) (reg d : Byte),
    runPseudo s (.w16 a v) = (transacts s [.write a (v.extractLsb' 8 8), .write (a + 1) (v.extractLsb' 0 8)]).1 ∧
    runPseudo s (.w32 a w) = (transacts s [.write a (w.extractLsb' 24 8), .write (a + 1) (w.extractLsb' 16 8),
      .write (a + 2) (w.extractLsb' 8 8), .write (a + 3) (w.extractLsb' 0 8)]).1 ∧
    runPseudo s (.psgw reg d) = (transacts s [.write 0xFF8800 reg, .write 0xFF8802 d]).1 ∧
    (∃ x y, (transacts s [.read a, .read (a + 1)]).2 = [x, y] ∧
      runPseudo s (.r16 a) = { (transacts s [.read a, .read (a + 1)]).1 with out := .half (x ++ y) }) ∧
    (∃ x y z u, (transacts s [.read a, .read (a + 1), .read (a + 2), .read (a + 3)]).2 = [x, y, z, u] ∧
      runPseudo s (.r32 a) =
        { (transacts s [.read a, .read (a + 1), .read (a + 2), .read (a + 3)]).1 with
          out := .long (x ++ y ++ z ++ u) }) ∧
    ∀ (p : Pseudo) (q : List Request), s.sys.invalid = false → s.env.queue = .pseudo p :: q →
      step s = .next (runPseudo (dequeued s q) p)

/-- R82, first sentence: the read of MW_MASK_HI advances the rotation, and every other read changes nothing. -/
def Obligations.OneReadHasASideEffect : Prop :=
  ∀ (s : State) (a : Addr), (busRead8 s a).1 =
    if a = 0xFF8924 then { s with dma := { s.dma with mwPending := s.dma.mwPending - 1 } } else s

/-- R82, last sentence: a repeated identical write is a no-op, but for a data-port write of register 13 and a write of
MW_DATA_LO. -/
def Obligations.RepeatedWritesAreNoOps : Prop :=
  ∀ (s : State) (a : Addr) (v : Byte), RamOk s → a ≠ 0xFF8923 →
    ¬(region a = .psg ∧ a.getLsbD 0 = false ∧ a.getLsbD 1 = true ∧ s.psg.sel = 13) →
    busWrite8 (busWrite8 s a v) a v = busWrite8 s a v

/-! The sound chip. -/

/-- R213, R214, R216, R217, R218: the ports. Both ports and their odd shadows read the selected register; the select
port takes the value mod 16; a write at an odd address changes nothing. -/
def Obligations.SoundChipPorts : Prop :=
  ∀ (s : State) (m : BitVec 6) (o : BitVec 7) (d : Byte),
    exec (.psgSelR8 m) s = .next { s with out := .byte (s.psg.reg s.psg.sel.toFin) } ∧
    exec (.psgDataR8 m) s = .next { s with out := .byte (s.psg.reg s.psg.sel.toFin) } ∧
    exec (.psgOddR8 o) s = .next { s with out := .byte (s.psg.reg s.psg.sel.toFin) } ∧
    exec (.psgOddW8 o d) s = .next s ∧
    ∃ t, exec (.psgSelW8 m d) s = .next t ∧ t = { s with psg := { s.psg with sel := t.psg.sel } } ∧
      t.psg.sel.toNat = d.toNat % 16

/-- R215, R102: a data-port write is the register write that the PSGREG key `PSG.sel` decodes to, and keeps the
selection. -/
def Obligations.DataPortWritesTheSelectedRegister : Prop :=
  ∀ (s : State) (m : BitVec 6) (d : Byte), ∃ i t,
    decode ⟨.psgreg, s.psg.sel.setWidth 26, d, 0, 0⟩ = .ok i ∧
    exec (.psgDataW8 m d) s = exec i s ∧ exec i s = .next t ∧ t.psg.sel = s.psg.sel

/-- R202, R253, and the sixteen rows R240 to R255: a register write stores the byte under the register's mask in that
register and in no other; register 13 also restarts the envelope; nothing else changes, no counter among it. -/
def Obligations.RegisterWritesStoreMasked : Prop :=
  ∀ (s : State) (n : Fin 16) (d : Byte), ∃ t,
    exec (registerWrite n d) s = .next t ∧
    (∀ k, t.psg.reg k = if k = n then d &&& registerMask n else s.psg.reg k) ∧
    t = { s with psg := { s.psg with
            regs := t.psg.regs
            envPos := if n = 13 then 0 else s.psg.envPos
            envCnt := if n = 13 then 0 else s.psg.envCnt } }

/-- R203: selecting a register, writing it and reading it back, through any mirrors of the ports, gives the written
value masked to its width, and the reads change nothing. -/
def Obligations.RegisterRoundTrip : Prop :=
  ∀ (s : State) (n : Fin 16) (d : Byte) (m m' m'' : BitVec 6), ∃ t u,
    exec (.psgSelW8 m (BitVec.ofNat 8 n.val)) s = .next t ∧
    exec (.psgDataW8 m' d) t = .next u ∧
    exec (.psgDataR8 m'') u = .next { u with out := .byte (d &&& registerMask n) } ∧
    exec (.psgSelR8 m'') u = .next { u with out := .byte (d &&& registerMask n) }

/-- R23: the periods and the shape are read from the registers. -/
def Obligations.PeriodsComeFromRegisters : Prop :=
  ∀ p : Psg,
    p.tonePeriod .A = (p.reg 1).toNat % 16 * 256 + (p.reg 0).toNat ∧
    p.tonePeriod .B = (p.reg 3).toNat % 16 * 256 + (p.reg 2).toNat ∧
    p.tonePeriod .C = (p.reg 5).toNat % 16 * 256 + (p.reg 4).toNat ∧
    p.noisePeriod = (p.reg 6).toNat % 32 ∧
    p.envPeriod = (p.reg 12).toNat * 256 + (p.reg 11).toNat ∧
    p.shape.toNat = (p.reg 13).toNat % 16

/-- R220 to R224: one chip tick steps the three tones, the noise and the envelope by their rules, returns the edge
word of the new state, and changes nothing else. -/
def Obligations.ChipTick : Prop :=
  ∀ s : State, ∃ t edges,
    exec .psgTick s = .next t ∧
    t = { s with
          psg := { s.psg with
            tones := t.psg.tones
            noiseHalf := t.psg.noiseHalf
            noiseCnt := t.psg.noiseCnt
            lfsr := t.psg.lfsr
            noiseBit := t.psg.noiseBit
            envCnt := t.psg.envCnt
            envPos := t.psg.envPos }
          out := .edges edges } ∧
    (∀ v, ToneRule (s.psg.tonePeriod v) (s.psg.tones.get v) (t.psg.tones.get v)) ∧
    NoiseRule s.psg t.psg ∧ EnvRule s.psg t.psg ∧
    ∀ j, j < 15 → edges.getLsbD j = (t.psg.tones.get (laneVoice (j / 5))).edge

/-- The tone period law of 40_psg section 3, which the spec marks as its inference from R221 ("the next toggle of
`PSG.edge[v]` happens exactly max(P, 1) chip ticks later"): with the counter at 0, the edge of a tone channel of
period P is unchanged for max(P, 1) - 1 chip ticks and toggles at tick max(P, 1), where the counter is 0 again. -/
def Obligations.TonePeriodLaw : Prop :=
  ∀ (s : State) (v : Voice) (k : Nat), (s.psg.tones.get v).cnt = 0 → k ≤ max (s.psg.tonePeriod v) 1 →
    ∃ t, after .psgTick k s = some t ∧
      (t.psg.tones.get v).edge =
        (if k < max (s.psg.tonePeriod v) 1 then (s.psg.tones.get v).edge else !(s.psg.tones.get v).edge) ∧
      (k = max (s.psg.tonePeriod v) 1 → (t.psg.tones.get v).cnt = 0)

/-- An inference from R224, as the tone period law is from R221: with the envelope counter at 0, the position is
unchanged for max(EP, 1) - 1 chip ticks and advances by one, 95 going to 32, at tick max(EP, 1), where the counter is
0 again. -/
def Obligations.EnvelopePeriodLaw : Prop :=
  ∀ (s : State) (k : Nat), s.psg.envCnt = 0 → k ≤ max s.psg.envPeriod 1 →
    ∃ t, after .psgTick k s = some t ∧
      t.psg.envPos =
        (if k < max s.psg.envPeriod 1 then s.psg.envPos else if s.psg.envPos = 95 then 32 else s.psg.envPos + 1) ∧
      (k = max s.psg.envPeriod 1 → t.psg.envCnt = 0)

/-- The sixteen envelope shapes as level sequences, the table that 40_psg section 4 derives from R230. -/
def Obligations.EnvelopeShapes : Prop :=
  ∀ (s : Fin 16) (i : Fin 32),
    envLevel (BitVec.ofNat 4 s.val) i.val = (shapeTable s.val).1.at i.val ∧
    envLevel (BitVec.ofNat 4 s.val) (32 + i.val) = (shapeTable s.val).2.1.at i.val ∧
    envLevel (BitVec.ofNat 4 s.val) (64 + i.val) = (shapeTable s.val).2.2.at i.val

/-- R261: `RESAMPLE` written as the rule's while loop is the operation PSG_SAMPLE uses (log 13); over N samples `(N *
CLK8 + r0) // HOST_RATE` chip ticks run in all, and the remainder is left in the accumulator; at CLK8 = 250000 and
HOST_RATE = 44100 each sample runs 5 or 6 ticks; with HOST_RATE above CLK8 there are samples that run none. -/
def Obligations.ResamplingKeepsExactTime : Prop :=
  (∀ p : Psg, 1 ≤ p.host → p.resample = resample p) ∧
  (∀ (s : State) (n : Nat), 1 ≤ s.psg.host → s.psg.resAcc < s.psg.host →
    ∃ t u, after .psgSample n s = some t ∧
      after .psgTick ((n * s.psg.clk8 + s.psg.resAcc) / s.psg.host) s = some u ∧
      chip t.psg = chip u.psg ∧ t.psg.resAcc = (n * s.psg.clk8 + s.psg.resAcc) % s.psg.host) ∧
  (∀ p : Psg, p.clk8 = 250000 → p.host = 44100 → p.resAcc < p.host → ∃ k, (k = 5 ∨ k = 6) ∧
    resample p = { Psg.tickN k p with resAcc := p.resAcc + 250000 - k * 44100 }) ∧
  (∀ p : Psg, p.clk8 < p.host → p.resAcc + p.clk8 < p.host →
    resample p = { p with resAcc := p.resAcc + p.clk8 })

/-- The packed form of 40_psg section 6, which the spec derives from R262 and R263 ("the gated word is
`G15 = LV15 & (EDGE15 | TDIS15) & (NOISE15 | NDIS15)`"): it gives each channel's gated index. -/
def Obligations.PackedGates : Prop :=
  ∀ (p : Psg) (v : Voice), (p.gatedWord.extractLsb' (5 * voiceIndex v) 5).toNat = gatedIndex p v

/-- R7: the parameters the spec gives a value for have it, and the open ones meet their constraints whatever they are:
VOL_TABLE starts at 0, stays in 16 bits and does not decrease, and DC_LEN is at least 1. -/
def Obligations.ImplementationParameters : Prop :=
  Config.ramSize = 4194304 ∧ Config.ymClock = 2000000 ∧ Config.mfpClock = 2457600 ∧
  (List.range 8).map prescale = [0, 4, 10, 16, 50, 64, 100, 200] ∧
  (List.range 4).map dmaRate = [6258, 12517, 25033, 50066] ∧
  (∀ d, mwVol d = min d 40 * 64 / 40) ∧
  1 ≤ Config.dcLen ∧ volTable 0 = 0 ∧ (∀ i, volTable i ≤ 65535) ∧ ∀ i j, i ≤ j → volTable i ≤ volTable j

/-- R260 to R265: a sound-chip sample runs the resampling loop, sums the three gated amplitudes, subtracts the average
of the ring buffer and replaces its oldest entry; the result is within 3*65535 of 0; nothing else changes. -/
def Obligations.SoundChipSample : Prop :=
  ∀ s : State, PsgOk s.psg → ∃ t raw out,
    exec .psgSample s = .next t ∧
    raw = volTable (gatedIndex (resample s.psg) .A) + volTable (gatedIndex (resample s.psg) .B) +
      volTable (gatedIndex (resample s.psg) .C) ∧
    out = (raw : Int) - ((s.psg.dcSum / Config.dcLen : Nat) : Int) ∧
    t = { s with
          psg := { resample s.psg with
            dcBuf := t.psg.dcBuf, dcSum := t.psg.dcSum, dcIdx := (s.psg.dcIdx + 1) % Config.dcLen }
          out := .sample out } ∧
    t.psg.dcSum + sparseGet 0 s.psg.dcBuf s.psg.dcIdx = s.psg.dcSum + raw ∧
    (∀ j, sparseGet 0 t.psg.dcBuf j = if j = s.psg.dcIdx then raw else sparseGet 0 s.psg.dcBuf j) ∧
    -(3 * 65535) ≤ out ∧ out ≤ 3 * 65535

/-- The sound chip's state stays in the ranges of 10_state R22 to R29 under every step. -/
def Obligations.StepKeepsTheSoundChipSound : Prop :=
  ∀ s t : State, step s = .next t → PsgOk s.psg → PsgOk t.psg

/-! The timer controller. -/

/-- R31, R32: the views of the registers that the rules of the timers use. -/
def Obligations.TimerViews : Prop :=
  ∀ m : Mfp,
    (m.en .A = m.iera.getLsbD 5 ∧ m.en .B = m.iera.getLsbD 0 ∧ m.en .C = m.ierb.getLsbD 5 ∧
      m.en .D = m.ierb.getLsbD 4 ∧ m.en .GPI7 = m.iera.getLsbD 7) ∧
    (m.msk .A = m.imra.getLsbD 5 ∧ m.msk .B = m.imra.getLsbD 0 ∧ m.msk .C = m.imrb.getLsbD 5 ∧
      m.msk .D = m.imrb.getLsbD 4 ∧ m.msk .GPI7 = m.imra.getLsbD 7) ∧
    ((m.ctrl .A).toNat = m.tacr.toNat % 16 ∧ (m.ctrl .B).toNat = m.tbcr.toNat % 16 ∧
      (m.ctrl .C).toNat = m.tcdcr.toNat / 16 % 8 ∧ (m.ctrl .D).toNat = m.tcdcr.toNat % 8 ∧ m.ctrl .GPI7 = 0b1000) ∧
    ∀ t, (m.eventMode t = true ↔ 8 ≤ (m.ctrl t).toNat) ∧
      m.pre t = [0, 4, 10, 16, 50, 64, 100, 200].getD ((m.ctrl t).toNat % 8) 0 ∧
      (m.stopped t = true ↔ (m.ctrl t).toNat = 0) ∧
      (m.delay t = true ↔ 1 ≤ (m.ctrl t).toNat ∧ (m.ctrl t).toNat ≤ 7) ∧
      (m.counting t = true ↔ m.en t = true ∧ m.delay t = true)

/-- R323, R324, R350 and the read rows R352 to R390: what each offset of the timer window reads as; no read changes
anything. The last value read is the model's field (log 9). -/
def Obligations.TimerRegisterReads : Prop :=
  ∀ (s : State) (off : Byte),
    exec .mfpGpipR8 s = .next { s with out := .byte s.mfp.gpip } ∧
    exec .mfpAerR8 s = .next { s with out := .byte s.mfp.aer } ∧
    exec .mfpDdrR8 s = .next { s with out := .byte s.mfp.ddr } ∧
    exec .mfpIeraR8 s = .next { s with out := .byte s.mfp.iera } ∧
    exec .mfpIerbR8 s = .next { s with out := .byte s.mfp.ierb } ∧
    exec .mfpIpraR8 s = .next { s with out := .byte 0 } ∧
    exec .mfpIprbR8 s = .next { s with out := .byte 0 } ∧
    exec .mfpIsraR8 s = .next { s with out := .byte 0 } ∧
    exec .mfpIsrbR8 s = .next { s with out := .byte 0 } ∧
    exec .mfpImraR8 s = .next { s with out := .byte s.mfp.imra } ∧
    exec .mfpImrbR8 s = .next { s with out := .byte s.mfp.imrb } ∧
    exec .mfpVrR8 s = .next { s with out := .byte s.mfp.vr } ∧
    exec .mfpTacrR8 s = .next { s with out := .byte s.mfp.tacr } ∧
    exec .mfpTbcrR8 s = .next { s with out := .byte s.mfp.tbcr } ∧
    exec .mfpTcdcrR8 s = .next { s with out := .byte s.mfp.tcdcr } ∧
    exec .mfpTadrR8 s = .next { s with out := .byte (BitVec.ofNat 8 (s.mfp.timers.a.counter % 256)) } ∧
    exec .mfpTbdrR8 s = .next { s with out := .byte (BitVec.ofNat 8 (s.mfp.timers.b.counter % 256)) } ∧
    exec .mfpTcdrR8 s = .next { s with out := .byte (BitVec.ofNat 8 (s.mfp.timers.c.counter % 256)) } ∧
    exec .mfpTddrR8 s = .next { s with out := .byte (BitVec.ofNat 8 (s.mfp.timers.d.counter % 256)) } ∧
    exec (.mfpEvenR8 off) s = .next { s with out := .byte 0xFF }

/-- R324 and the write rows of the storage-only, mask and fixed registers (R353 to R375, R391): the byte is stored, or
the write is ignored; nothing else changes. -/
def Obligations.TimerStorageWrites : Prop :=
  ∀ (s : State) (off v : Byte),
    exec (.mfpGpipW8 v) s = .next { s with mfp := { s.mfp with gpip := v } } ∧
    exec (.mfpAerW8 v) s = .next { s with mfp := { s.mfp with aer := v } } ∧
    exec (.mfpDdrW8 v) s = .next { s with mfp := { s.mfp with ddr := v } } ∧
    exec (.mfpImraW8 v) s = .next { s with mfp := { s.mfp with imra := v } } ∧
    exec (.mfpImrbW8 v) s = .next { s with mfp := { s.mfp with imrb := v } } ∧
    exec (.mfpVrW8 v) s = .next { s with mfp := { s.mfp with vr := v } } ∧
    exec (.mfpIpraW8 v) s = .next s ∧
    exec (.mfpIprbW8 v) s = .next s ∧
    exec (.mfpIsraW8 v) s = .next s ∧
    exec (.mfpIsrbW8 v) s = .next s ∧
    exec (.mfpEvenW8 off v) s = .next s

/-- R320 (R359, R361): an enable write stores the byte and restarts exactly the delay-mode timers it takes from
disabled to enabled; nothing else changes. -/
def Obligations.EnableWriteRestartsTimers : Prop :=
  ∀ (s : State) (v : Byte),
    (∃ t, exec (.mfpIeraW8 v) s = .next t ∧
      t = { s with mfp := { s.mfp with iera := v, timers := t.mfp.timers } } ∧ EnableRule s.mfp t.mfp) ∧
    (∃ t, exec (.mfpIerbW8 v) s = .next t ∧
      t = { s with mfp := { s.mfp with ierb := v, timers := t.mfp.timers } } ∧ EnableRule s.mfp t.mfp)

/-- R321 (R377, R379, R381): a control write stores the masked byte and clears the accumulator of exactly the timers
of that register that it sets counting; nothing else changes. -/
def Obligations.ControlWriteClearsAccumulators : Prop :=
  ∀ (s : State) (v : Byte),
    (∃ t, exec (.mfpTacrW8 v) s = .next t ∧
      t = { s with mfp := { s.mfp with tacr := v &&& 0x0F, timers := t.mfp.timers } } ∧
      ControlRule [.A] s.mfp t.mfp) ∧
    (∃ t, exec (.mfpTbcrW8 v) s = .next t ∧
      t = { s with mfp := { s.mfp with tbcr := v &&& 0x0F, timers := t.mfp.timers } } ∧
      ControlRule [.B] s.mfp t.mfp) ∧
    (∃ t, exec (.mfpTcdcrW8 v) s = .next t ∧
      t = { s with mfp := { s.mfp with tcdcr := v &&& 0x77, timers := t.mfp.timers } } ∧
      ControlRule [.C, .D] s.mfp t.mfp)

/-- R322, R323: a data write sets the reload value, and the count too while the timer is stopped, when a read then
returns the written value; no other timer and nothing else changes. -/
def Obligations.DataWriteAndRead : Prop :=
  ∀ (s : State) (v : Byte), ∀ x ∈ [(Instr.mfpTadrW8 v, Instr.mfpTadrR8, TimerId.A), (.mfpTbdrW8 v, .mfpTbdrR8, .B),
      (.mfpTcdrW8 v, .mfpTcdrR8, .C), (.mfpTddrW8 v, .mfpTddrR8, .D)],
    ∃ t, exec x.1 s = .next t ∧ t = { s with mfp := { s.mfp with timers := t.mfp.timers } } ∧
      (∀ u, t.mfp.timers.get u =
        if u = x.2.2 then
          { s.mfp.timers.get u with
            reload := v
            counter :=
              if s.mfp.ctrl u = 0 then (if v = 0 then 256 else v.toNat) else (s.mfp.timers.get u).counter }
        else s.mfp.timers.get u) ∧
      (s.mfp.ctrl x.2.2 = 0 → exec x.2.1 t = .next { t with out := .byte v })

/-- R330: MFP_TICK(t) written as the rule's loop; it changes that timer only, clears its event flag, and returns
whether it fired and is masked in. -/
def Obligations.TimerTick : Prop :=
  ∀ (s : State) (t : TimerId), 1 ≤ s.mfp.host → ∃ w, exec (.mfpTick t) s = .next w ∧
    w = { s with
          mfp := { s.mfp with timers := w.mfp.timers }
          out := .fired ((tickTimer s.mfp t).2 && s.mfp.msk t) } ∧
    ∀ u, w.mfp.timers.get u =
      if u = t then { (tickTimer s.mfp t).1 with event := false } else s.mfp.timers.get u

/-- The timing law of 41_mfp_timers section 1, which the spec derives from R320 and R330 ("Its n-th count-down happens
in the first tick k with `k * MFP_CLOCK >= n * PRE(t) * HOST_RATE`"): a delay-mode timer restarted with count N and
ticked k times has counted down `k * MFP_CLOCK // (PRE * HOST_RATE)` times, and its k-th tick fires exactly if one of
the count-downs in it is a multiple of N. -/
def Obligations.DelayTimerLaw : Prop :=
  ∀ (s : State) (t : TimerId) (k : Nat), 1 ≤ s.mfp.host → s.mfp.en t = true → s.mfp.delay t = true →
    (s.mfp.timers.get t).counter = reload (s.mfp.timers.get t) → (s.mfp.timers.get t).acc = 0 → 1 ≤ k →
    ∃ w fired, after (.mfpTick t) k s = some w ∧
      (w.mfp.timers.get t).acc = k * Config.mfpClock % (s.mfp.pre t * s.mfp.host) ∧
      (w.mfp.timers.get t).counter =
        reload (s.mfp.timers.get t) - k * Config.mfpClock / (s.mfp.pre t * s.mfp.host) % reload (s.mfp.timers.get t) ∧
      w.out = .fired (fired && s.mfp.msk t) ∧
      (fired = true ↔ ∃ n, 1 ≤ n ∧ n % reload (s.mfp.timers.get t) = 0 ∧
        n * (s.mfp.pre t * s.mfp.host) ≤ k * Config.mfpClock ∧ (k - 1) * Config.mfpClock < n * (s.mfp.pre t * s.mfp.host))

/-- What 41_mfp_timers section 3 derives from R320, R321 and R330 ("A tick never changes a timer's state, only its
counter, accumulator and event flag"): a tick changes the state of no timer (R34), and a disabled or stopped timer
keeps its counter and accumulator. -/
def Obligations.TickKeepsTimerStates : Prop :=
  ∀ (s : State) (t : TimerId), ∃ w, exec (.mfpTick t) s = .next w ∧
    (∀ u, w.mfp.timerMode u = s.mfp.timerMode u) ∧
    (s.mfp.timerMode t = .disabled ∨ s.mfp.timerMode t = .armed →
      (w.mfp.timers.get t).counter = (s.mfp.timers.get t).counter ∧
      (w.mfp.timers.get t).acc = (s.mfp.timers.get t).acc ∧ w.out = .fired false)

/-- R340: MFP_SIGNAL(t) sets that timer's event flag and changes nothing else; signalling twice is the same as once.
-/
def Obligations.ExternalEvent : Prop :=
  ∀ (s : State) (t : TimerId), ∃ w, exec (.mfpSignal t) s = .next w ∧
    w = { s with mfp := { s.mfp with timers := w.mfp.timers } } ∧
    (∀ u, w.mfp.timers.get u =
      if u = t then { s.mfp.timers.get u with event := true } else s.mfp.timers.get u) ∧
    exec (.mfpSignal t) w = .next w

/-- The timer controller's state stays in the ranges of 10_state R30, R33 under every step. -/
def Obligations.StepKeepsTheTimersSound : Prop :=
  ∀ s t : State, step s = .next t → MfpOk s.mfp → MfpOk t.mfp

/-! The DMA-PCM channel and the microwire. -/

/-- R450 and the read rows R452 to R476 and R482: what each offset reads as; none of these reads changes anything. -/
def Obligations.DmaRegisterReads : Prop :=
  ∀ (s : State) (off : Byte), dmaUnusedOffset off = true →
    exec .dmaCtrlR8 s = .next { s with out := .byte s.dma.ctrl } ∧
    exec .dmaStartHiR8 s = .next { s with out := .byte s.dma.startHi } ∧
    exec .dmaStartMidR8 s = .next { s with out := .byte s.dma.startMid } ∧
    exec .dmaStartLoR8 s = .next { s with out := .byte s.dma.startLo } ∧
    exec .dmaCntHiR8 s = .next { s with out := .byte (BitVec.ofNat 8 (s.dma.cur.toNat / 65536)) } ∧
    exec .dmaCntMidR8 s = .next { s with out := .byte (BitVec.ofNat 8 (s.dma.cur.toNat / 256)) } ∧
    exec .dmaCntLoR8 s = .next { s with out := .byte (BitVec.ofNat 8 s.dma.cur.toNat) } ∧
    exec .dmaEndHiR8 s = .next { s with out := .byte s.dma.endHi } ∧
    exec .dmaEndMidR8 s = .next { s with out := .byte s.dma.endMid } ∧
    exec .dmaEndLoR8 s = .next { s with out := .byte s.dma.endLo } ∧
    exec .dmaModeR8 s = .next { s with out := .byte s.dma.mode } ∧
    exec .dmaMwDataHiR8 s = .next { s with out := .byte s.dma.mwDataHi } ∧
    exec .dmaMwDataLoR8 s = .next { s with out := .byte s.dma.mwDataLo } ∧
    exec (.dmaUnusedR8 off) s = .next { s with out := .byte 0 }

/-- R451 and the write rows of the plain, view and unused offsets (R455 to R475, R479, R481, R483): the byte is stored
under its mask, or the write is ignored; nothing else changes. -/
def Obligations.DmaStorageWrites : Prop :=
  ∀ (s : State) (off v : Byte), dmaUnusedOffset off = true →
    exec (.dmaStartHiW8 v) s = .next { s with dma := { s.dma with startHi := v } } ∧
    exec (.dmaStartMidW8 v) s = .next { s with dma := { s.dma with startMid := v } } ∧
    exec (.dmaStartLoW8 v) s = .next { s with dma := { s.dma with startLo := v } } ∧
    exec (.dmaEndHiW8 v) s = .next { s with dma := { s.dma with endHi := v } } ∧
    exec (.dmaEndMidW8 v) s = .next { s with dma := { s.dma with endMid := v } } ∧
    exec (.dmaEndLoW8 v) s = .next { s with dma := { s.dma with endLo := v } } ∧
    exec (.dmaModeW8 v) s = .next { s with dma := { s.dma with mode := v &&& 0x83 } } ∧
    exec (.dmaMwDataHiW8 v) s = .next { s with dma := { s.dma with mwDataHi := v } } ∧
    exec (.dmaMwMaskHiW8 v) s = .next { s with dma := { s.dma with mwMaskHi := v } } ∧
    exec (.dmaMwMaskLoW8 v) s = .next { s with dma := { s.dma with mwMaskLo := v } } ∧
    exec (.dmaCntHiW8 v) s = .next s ∧
    exec (.dmaCntMidW8 v) s = .next s ∧
    exec (.dmaCntLoW8 v) s = .next s ∧
    exec (.dmaUnusedW8 off v) s = .next s

/-- R410 (R453): a control write stores the two bits; only a rising edge of the play bit fetches the pointers and
clears the stream. -/
def Obligations.PlayControl : Prop :=
  ∀ (s : State) (v : Byte), exec (.dmaCtrlW8 v) s = .next { s with dma := playControl s.dma v }

/-- R420 to R423: DMA_SAMPLE written as the rule's loop, with its fetches, pair averages and buffer ends; it changes
the channel and, at a buffer end, the events of Timer A and GPI7, and nothing else (log 13). R424: the sample of a
channel in the ranges of 10_state R35 to R37 is within -65536..65024. -/
def Obligations.DmaSample : Prop :=
  ∀ s : State, 1 ≤ s.dma.host →
    exec .dmaSample s =
      .next { s with
        dma := (dmaLoopSample s).1
        mfp := (dmaLoopSample s).2.1
        out := .sample (dmaLoopSample s).2.2 } ∧
    (DmaOk s.dma → -65536 ≤ (dmaLoopSample s).2.2 ∧ (dmaLoopSample s).2.2 ≤ 65024)

/-- R440 (R477): a write of MW_DATA_LO stores the byte, sets the busy count to 16, and sets the master volume exactly
if eleven mask bits or more are set and the command addresses it; nothing else changes. -/
def Obligations.MicrowireTransfer : Prop :=
  ∀ (s : State) (v : Byte) (cmd : BitVec 11), IsCommand (s.dma.mwDataHi ++ v) (s.dma.mwMaskHi ++ s.dma.mwMaskLo) cmd →
    exec (.dmaMwDataLoW8 v) s = .next { s with dma := { s.dma with
      mwDataLo := v
      mwPending := 16
      masterVol :=
        if 11 ≤ (maskBits (s.dma.mwMaskHi ++ s.dma.mwMaskLo)).length ∧ cmd.toNat / 512 = 2 ∧ cmd.toNat / 64 % 8 = 3
        then min (cmd.toNat % 64) 40 * 64 / 40
        else s.dma.masterVol } }

/-- R441 (R478, R480): the high-byte read of the mask takes one from the busy count, then both reads show the mask
rotated left by 16 less the count. -/
def Obligations.MaskReadsShowTheRotation : Prop :=
  ∀ s : State, ∃ hi lo : Byte,
    exec .dmaMwMaskHiR8 s =
      .next { s with dma := { s.dma with mwPending := s.dma.mwPending - 1 }, out := .byte hi } ∧
    exec .dmaMwMaskLoR8 s = .next { s with out := .byte lo } ∧
    ∀ j, j < 8 →
      hi.getLsbD j =
        (s.dma.mwMaskHi ++ s.dma.mwMaskLo).getLsbD ((8 + j + 16 - (16 - (s.dma.mwPending - 1)) % 16) % 16) ∧
      lo.getLsbD j =
        (s.dma.mwMaskHi ++ s.dma.mwMaskLo).getLsbD ((j + 16 - (16 - s.dma.mwPending) % 16) % 16)

/-- R441: after a transfer, the k-th halfword read of the mask shows it rotated left by k places for k up to 15, and
the sixteenth read and every later one shows it as written. The reads are requests of the queue, each run whole in one
step: the model's choice (logs 1, 24). -/
def Obligations.SixteenMaskReads : Prop :=
  ∀ (s t : State) (v : Byte) (k : Nat), exec (.dmaMwDataLoW8 v) s = .next t → s.sys.invalid = false →
    s.env.queue = List.replicate (k + 1) (.pseudo (.r16 0xFF8924)) →
    ∃ u, run (k + 1) t = some u ∧
      u.out = .half ((s.dma.mwMaskHi ++ s.dma.mwMaskLo).rotateLeft (if k < 15 then k + 1 else 0)) ∧
      u.dma.mwDataLo = v

/-- The DMA-PCM channel's state stays in the ranges of 10_state R35 to R37 under every step. -/
def Obligations.StepKeepsTheDmaChannelSound : Prop :=
  ∀ s t : State, step s = .next t → DmaOk s.dma → DmaOk t.dma

/-! The system. -/

/-- R201, R301, R401, R700, R701: what each reset leaves. The HOST_RATE is the operand. That a reset leaves the host
arguments, the validity of the session and the model's own fields alone is the model's reading (log 30, DEDUCED). -/
def Obligations.ResetsLeaveTheResetValues : Prop :=
  ∀ (s : State) (rate clock : Nat), 1 ≤ rate → 8 ≤ clock →
    exec (.psgReset rate clock) s = .next { s with psg := Psg.fresh rate clock } ∧
    exec (.mfpReset rate) s = .next { s with mfp := Mfp.fresh rate } ∧
    exec (.dmaReset rate) s = .next { s with dma := Dma.fresh rate } ∧
    (∃ t, exec (.sysReset rate) s = .next t ∧
      t = { s with
            ram := t.ram
            psg := Psg.fresh rate 2000000
            mfp := Mfp.fresh rate
            dma := Dma.fresh rate
            sys := { s.sys with n := 0, vis := 0 } } ∧
      ∀ a, a < 4194304 → memRead t.ram a = 0)

/-- R701, and log 5 for the HOST_RATE and log 6 for the SPT it needs: the state after reset is what SYS_RESET leaves,
and it is sound. -/
def Obligations.ResetStateIsSound : Prop :=
  Sound State.reset ∧ exec (.sysReset Config.hostRate) State.reset = .next State.reset

/-- R501: one output sample is the player tick, the five timer ticks, the dispatches of those that fired, one
sound-chip sample and one DMA-PCM sample, their clamped sum, the diagnostic word and the next index, in this order;
the word is R512's, its four bytes written out (R267). The planned runs, the record of dispatches and the
result field are the model's (logs 9, 10, 27). -/
def Obligations.OutputSample : Prop :=
  ∀ s : State, exec .sysSample s =
    .next { (sysSample { s with env := { s.env with dispatched := [] } }).1 with
      out := .sample (sysSample { s with env := { s.env with dispatched := [] } }).2 }

/-- R501, R504, R505, R611, R612: the dispatches of a sample, in order: the player tick when SYS.n is a multiple of
SPT, then the timers that fired, in TimerId order, each to its fixed vector; the timers that fire are fixed when they
are ticked, before any interrupt dispatch. What is compared is the record of dispatches, the model's choice (log 10).
-/
def Obligations.DispatchesOfASample : Prop :=
  ∀ s t : State, exec .sysSample s = .next t →
    t.env.dispatched.map (fun r => (r.kind, r.target, r.budget)) =
      (if s.sys.n % s.song.spt = 0 then [(.player, s.song.playerEntry, s.song.tickBudget)] else []) ++
      ((allTimers.filter fun x => ((player s).mfp.tick x).2).map fun x => (.irq x, vec x, s.song.irqBudget))

/-- R502: from a sound state the sound-chip sample is within 3*65535 of 0, the DMA-PCM sample within -65536..65024,
and the output is their sum clamped to [-32768, 32767]. -/
def Obligations.OutputIsClamped : Prop :=
  ∀ s : State, Sound s → ∃ t ym dma out, exec .sysSample s = .next t ∧ t.out = .sample out ∧
    ym = (hostPhase s.noDispatches).psg.sample.2 ∧
    dma = (Machine.dmaSample (hostPhase s.noDispatches).ram (hostPhase s.noDispatches).dma
      (hostPhase s.noDispatches).mfp).2.2 ∧
    -(3 * 65535) ≤ ym ∧ ym ≤ 3 * 65535 ∧ -65536 ≤ dma ∧ dma ≤ 65024 ∧
    out = min (max (ym + dma) (-32768)) 32767 ∧ -32768 ≤ out ∧ out ≤ 32767

/-- R503, R613, R614: a dispatch applies the transactions of the host's first `budget` steps to the bus, each at once
and in order with all its effects, and records the bytes read and whether the host returned; it clocks no device: what
only device operations change is unchanged; with no write among the host's transactions nothing changes but the
microwire's busy count and the environment; a dispatch whose budget is used up is cut there: it has the effect of its
first `budget` host steps and has not returned. The planned runs and the record are the model's (log 10); that the
last allowed step is in time is its reading (log 27). -/
def Obligations.DispatchesClockNoDevice : Prop :=
  (∀ (kind : DispatchKind) (target : Addr) (arg budget : Nat) (s : State),
    hostDispatch kind target arg budget s = dispatch kind target arg budget s ∧
    SameClocks (hostDispatch kind target arg budget s) s ∧
    (((planned s).steps.all fun xs => xs.all isRead) = true →
      hostDispatch kind target arg budget s =
        { s with
          dma := { s.dma with mwPending := (hostDispatch kind target arg budget s).dma.mwPending }
          env := (hostDispatch kind target arg budget s).env })) ∧
  (∀ (kind : DispatchKind) (target : Addr) (arg : Nat) (s : State) (xs ys : List (List BusTx)) (returns : Bool)
      (rest : List HostRun), s.env.runs = ⟨xs ++ ys, returns⟩ :: rest → ys ≠ [] →
    hostDispatch kind target arg xs.length s =
      hostDispatch kind target arg xs.length { s with env := { s.env with runs := ⟨xs, false⟩ :: rest } })

/-- R712, which the spec derives from R501 and R330 ("a DMA-PCM buffer end signalled during sample n is counted by
Timer A and GPI7 at their ticks in sample n + 1"). The event flags a sample's ticks count are those it began with, its
player tick leaving them alone. GPI7 is dispatched exactly if its flag was set and the player tick left it enabled and
masked in. Timer A, if the player tick left it enabled in event mode, is dispatched exactly if its flag was set, its
count was 1 and it is masked in; and with interrupt handlers that do nothing (IRQ_BUDGET 0) its count at the sample's
end is one count-down on exactly if its flag was set. When the DMA channel computes the sample every flag is clear,
and what it leaves of the timers is what the sample ends with: its flags are those its own DMA channel raised, Timer
A's and GPI7's together, no other. The record of dispatches is the model's (log 10). -/
def Obligations.EventsAreCountedOneSampleLater : Prop :=
  ∀ s t : State, MfpOk s.mfp → exec .sysSample s = .next t →
    (∀ x ∈ allTimers, ((player s).mfp.timers.get x).event = (s.mfp.timers.get x).event) ∧
    ((∃ r ∈ t.env.dispatched, r.kind = .irq .GPI7) ↔
      s.mfp.timers.gpi7.event = true ∧ (player s).mfp.en .GPI7 = true ∧ (player s).mfp.msk .GPI7 = true) ∧
    ((player s).mfp.en .A = true → (player s).mfp.eventMode .A = true →
      ((∃ r ∈ t.env.dispatched, r.kind = .irq .A) ↔
        s.mfp.timers.a.event = true ∧ (player s).mfp.timers.a.counter = 1 ∧ (player s).mfp.msk .A = true) ∧
      (s.song.irqBudget = 0 → t.mfp.timers.a.counter =
        if s.mfp.timers.a.event = true then (countDown (player s).mfp.timers.a).1.counter
        else (player s).mfp.timers.a.counter)) ∧
    (∀ x ∈ allTimers, ((hostPhase s.noDispatches).mfp.timers.get x).event = false) ∧
    t.mfp = (Machine.dmaSample (hostPhase s.noDispatches).ram (hostPhase s.noDispatches).dma
      (hostPhase s.noDispatches).mfp).2.1 ∧
    t.mfp.timers.a.event = t.mfp.timers.gpi7.event ∧ t.mfp.timers.b.event = false ∧
    t.mfp.timers.c.event = false ∧ t.mfp.timers.d.event = false

/-- R507, R601: an upload that would pass RAM_SIZE returns false and changes nothing but the session's validity, which
the model remembers (log 12, DEDUCED); any other stores the blob, changes no other byte and nothing else, and returns
true. The size is the blob's length (log 22, DEDUCED). -/
def Obligations.Upload : Prop :=
  ∀ (s : State) (blob : List Byte) (address : Nat) (q : List Request), RamOk s → s.sys.invalid = false →
    s.env.queue = .upload blob address :: q →
    if 4194304 < address + blob.length then
      step s = .next { dequeued s q with sys := { s.sys with invalid := true }, out := .success false }
    else
      ∃ t, step s = .next t ∧ t = { dequeued s q with ram := t.ram, out := .success true } ∧
        ∀ b, memRead t.ram b =
          if address ≤ b ∧ b < address + blob.length then blob.getD (b - address) 0 else memRead s.ram b

/-- R508: `call_and_wait` is one dispatch (R503) of the host with the argument handed over, its transactions applied
in order; it returns whether the host returned within the budget, and clocks no device. What the host does is the
planned run (log 10), and the last allowed step counts as in time (log 27, DEDUCED): both are the model's. -/
def Obligations.CallAndWait : Prop :=
  ∀ (s : State) (entry : Addr) (arg timeout : Nat) (q : List Request), s.sys.invalid = false →
    s.env.queue = .callAndWait entry arg timeout :: q →
    ∃ t, step s = .next t ∧ SameClocks t s ∧
      t = { dispatch .call entry arg timeout (dequeued s q).noDispatches with
            out := .success (returned (planned s) timeout) } ∧
      t.env.dispatched.map (fun r => (r.kind, r.target, r.arg, r.budget)) = [(.call, entry, arg, timeout)]

/-- R509: `render` is that many SYS_SAMPLE operations, their results in the output buffer in order, the diagnostic
words in the other buffer when it is given; `loop_count` counts the player ticks whose number is a positive multiple
of TICK_COUNT. The buffers are the model's fields (log 23). -/
def Obligations.RenderIsManySamples : Prop :=
  ∀ (s : State) (count : Nat) (vis : Bool) (q : List Request), s.sys.invalid = false →
    s.env.queue = .render count vis :: q →
    ∃ t u outs words, step s = .next t ∧ samples count (dequeued s q) = some (u, outs, words) ∧
      t.ram = u.ram ∧ t.psg = u.psg ∧ t.mfp = u.mfp ∧ t.dma = u.dma ∧ t.sys = u.sys ∧ t.song = u.song ∧
      t.env.runs = u.env.runs ∧ t.env.outBuf = outs ∧ t.env.visBuf = (if vis then words else []) ∧
      t.out = .loops ((List.range count).countP fun k =>
        (s.sys.n + k) % s.song.spt == 0 && s.song.tickCount != 0 && (s.sys.n + k) / s.song.spt != 0 &&
          (s.sys.n + k) / s.song.spt % s.song.tickCount == 0)

/-- R512: no rule reads the diagnostic word: every operation does the same whatever it holds, and passes it on, but
for the two that set it. -/
def Obligations.NoOperationReadsTheDiagnosticWord : Prop :=
  ∀ (i : Instr) (s : State) (w : BitVec 32), exec i (withVis s w) =
    match exec i s with
    | .next t => .next (if setsVis i then t else withVis t w)
    | .fault f => .fault f
    | .refused r => .refused r

/-- R38: the RAM list keeps its canonical form under every step. -/
def Obligations.StepKeepsTheRamCanonical : Prop :=
  ∀ s t : State, step s = .next t → RamOk s → RamOk t
end

