-- ==== Sys2Proof/Laws/Memory.lean ====
section
/-! SUPPORT. The laws of sparse arrays and of the RAM: reading after writing, the canonical form kept. -/

namespace Sys2Proof.Machine

section Sparse
variable {α : Type} [DecidableEq α] (z : α)

theorem sparseGet_of_lt : ∀ (l : List (Nat × α)) (lo a : Nat), sparseWfFrom z lo l = true → a < lo → sparseGet z l a = z
  | [], _, _, _, _ => rfl
  | (k, v) :: t, lo, a, h, ha => by
    simp only [sparseWfFrom, Bool.and_eq_true, decide_eq_true_eq] at h
    have hk : k ≠ a := by omega
    simp only [sparseGet, if_neg hk]
    exact sparseGet_of_lt t (k + 1) a h.2 (by omega)

theorem sparseGet_sparseSet : ∀ (l : List (Nat × α)) (lo a b : Nat) (v : α), sparseWfFrom z lo l = true →
    sparseGet z (sparseSet z l a v) b = if b = a then v else sparseGet z l b
  | [], lo, a, b, v, _ => by
    by_cases hv : v = z
    · simp [sparseSet, sparseGet, hv]
    · by_cases hb : b = a
      · simp [sparseSet, sparseGet, hv, hb]
      · simp [sparseSet, sparseGet, hv, hb, Ne.symm hb]
  | (k, w) :: t, lo, a, b, v, h => by
    have h' := h
    simp only [sparseWfFrom, Bool.and_eq_true, decide_eq_true_eq] at h'
    obtain ⟨⟨hlo, -⟩, ht⟩ := h'
    unfold sparseSet
    split
    · rename_i hak
      by_cases hv : v = z
      · rw [if_pos hv]
        by_cases hb : b = a
        · subst hb
          rw [if_pos rfl, hv]
          have hkb : k ≠ b := by omega
          simp only [sparseGet, if_neg hkb]
          exact sparseGet_of_lt z t (k + 1) b ht (by omega)
        · simp [hb]
      · rw [if_neg hv]
        by_cases hb : b = a
        · simp [sparseGet, hb]
        · simp [sparseGet, hb, Ne.symm hb]
    · split
      · rename_i hak hake
        subst hake
        by_cases hv : v = z
        · rw [if_pos hv]
          by_cases hb : b = a
          · subst hb
            rw [if_pos rfl, hv]
            exact sparseGet_of_lt z t (b + 1) b ht (by omega)
          · simp [sparseGet, hb, Ne.symm hb]
        · rw [if_neg hv]
          by_cases hb : b = a
          · simp [sparseGet, hb]
          · simp [sparseGet, hb, Ne.symm hb]
      · rename_i hak hake
        simp only [sparseGet]
        by_cases hkb : k = b
        · have : b ≠ a := by omega
          simp [hkb, this]
        · simp only [if_neg hkb]
          exact sparseGet_sparseSet t (k + 1) a b v ht

theorem sparseWfFrom_mono : ∀ (l : List (Nat × α)) (lo lo' : Nat), lo' ≤ lo → sparseWfFrom z lo l = true →
    sparseWfFrom z lo' l = true
  | [], _, _, _, _ => rfl
  | (k, v) :: t, lo, lo', hle, h => by
    simp only [sparseWfFrom, Bool.and_eq_true, decide_eq_true_eq] at h ⊢
    exact ⟨⟨by omega, h.1.2⟩, h.2⟩

theorem sparseSet_wf : ∀ (l : List (Nat × α)) (lo a : Nat) (v : α), sparseWfFrom z lo l = true → lo ≤ a →
    sparseWfFrom z lo (sparseSet z l a v) = true
  | [], lo, a, v, _, hla => by
    by_cases hv : v = z
    · simp [sparseSet, sparseWfFrom, hv]
    · simp [sparseSet, sparseWfFrom, hv, hla]
  | (k, w) :: t, lo, a, v, h, hla => by
    have h' := h
    simp only [sparseWfFrom, Bool.and_eq_true, decide_eq_true_eq] at h'
    obtain ⟨⟨hlo, hw⟩, ht⟩ := h'
    unfold sparseSet
    split
    · rename_i hak
      by_cases hv : v = z
      · rw [if_pos hv]
        exact h
      · rw [if_neg hv]
        simp only [sparseWfFrom, Bool.and_eq_true, decide_eq_true_eq]
        exact ⟨⟨hla, by simp [hv]⟩, ⟨by omega, hw⟩, ht⟩
    · split
      · rename_i hak hake
        by_cases hv : v = z
        · rw [if_pos hv]
          exact sparseWfFrom_mono z t (k + 1) lo (by omega) ht
        · rw [if_neg hv]
          simp only [sparseWfFrom, Bool.and_eq_true, decide_eq_true_eq]
          exact ⟨⟨hla, by simp [hv]⟩, by rw [hake]; exact ht⟩
      · rename_i hak hake
        simp only [sparseWfFrom, Bool.and_eq_true, decide_eq_true_eq]
        exact ⟨⟨hlo, hw⟩, sparseSet_wf t (k + 1) a v ht (by omega)⟩

theorem mem_sparseSet : ∀ (l : List (Nat × α)) (a : Nat) (v : α) (c : Nat × α), c ∈ sparseSet z l a v →
    c ∈ l ∨ c = (a, v)
  | [], a, v, c, h => by
    by_cases hv : v = z <;> simp_all [sparseSet]
  | (k, w) :: t, a, v, c, h => by
    unfold sparseSet at h
    split at h
    · by_cases hv : v = z <;> simp_all
      tauto
    · split at h
      · by_cases hv : v = z <;> simp_all
        tauto
      · rcases List.mem_cons.1 h with h | h
        · exact .inl (by simp [h])
        · rcases mem_sparseSet t a v c h with h | h
          · exact .inl (by simp [h])
          · exact .inr h

end Sparse

theorem wf_sparse {m : List Host.Cell} (h : Memory.wf m = true) : sparseWfFrom ramDefault 0 m = true := by
  simp only [Memory.wf, Bool.and_eq_true] at h
  exact h.1

theorem wf_nil : Memory.wf [] = true := rfl

/-- A RAM store is seen by the loads of its address and by no other. -/
theorem memRead_memWrite {m : List Host.Cell} (h : Memory.wf m = true) (a b : Nat) (v : Byte) :
    memRead (memWrite m a v) b = if b = a ∧ a < Config.ramSize then v else memRead m b := by
  unfold memRead memWrite
  by_cases hb : b < Config.ramSize
  · by_cases ha : a < Config.ramSize
    · rw [if_pos hb, if_pos hb, if_pos ha, sparseGet_sparseSet _ _ 0 _ _ _ (wf_sparse h)]
      simp [ha]
    · have : b ≠ a := by omega
      simp [hb, ha]
  · have : ¬ (b = a ∧ a < Config.ramSize) := by omega
    simp [hb, this]

theorem memWrite_wf {m : List Host.Cell} (h : Memory.wf m = true) (a : Nat) (v : Byte) :
    Memory.wf (memWrite m a v) = true := by
  unfold memWrite
  split
  · rename_i ha
    simp only [Memory.wf, Bool.and_eq_true, List.all_eq_true, decide_eq_true_eq] at h ⊢
    refine ⟨sparseSet_wf _ _ 0 a v h.1 (Nat.zero_le _), fun c hc => ?_⟩
    rcases mem_sparseSet _ _ _ _ _ hc with hc | hc
    · exact h.2 c hc
    · rw [hc]
      exact ha
  · exact h

theorem memWriteAll_wf : ∀ (bs : List Byte) {m : List Host.Cell} (a : Nat), Memory.wf m = true →
    Memory.wf (memWriteAll m a bs) = true
  | [], _, _, h => h
  | b :: bs, _, a, h => memWriteAll_wf bs (a + 1) (memWrite_wf h a b)

/-- Bytes stored one after another: each is read back, and every other address reads as before. -/
theorem memRead_memWriteAll : ∀ (bs : List Byte) {m : List Host.Cell} (a b : Nat), Memory.wf m = true →
    a + bs.length ≤ Config.ramSize →
    memRead (memWriteAll m a bs) b =
      if a ≤ b ∧ b < a + bs.length then bs.getD (b - a) 0 else memRead m b
  | [], m, a, b, _, _ => by
    simp [memWriteAll]
  | x :: xs, m, a, b, h, hle => by
    simp only [List.length_cons] at hle ⊢
    have ih := memRead_memWriteAll xs (a + 1) b (memWrite_wf h a x) (by omega)
    rw [memWriteAll, ih]
    by_cases h1 : a + 1 ≤ b ∧ b < a + 1 + xs.length
    · have h2 : a ≤ b ∧ b < a + (xs.length + 1) := by omega
      have h3 : b - a = (b - (a + 1)) + 1 := by omega
      simp [h1, h2, h3]
    · rw [if_neg h1, memRead_memWrite h]
      by_cases hb : b = a
      · subst hb
        have h2 : b ≤ b ∧ b < b + (xs.length + 1) := by omega
        have h3 : b < Config.ramSize := by omega
        simp [h3]
      · have h2 : ¬ (a ≤ b ∧ b < a + (xs.length + 1)) := by omega
        simp [hb, h2]

end Sys2Proof.Machine
end

