-- ==== Sys2Proof/Laws/State.lean ====
section
/-! SUPPORT. The small lemmas of the state: one per field per named update, and the lookup laws of the three- and
five-element records. -/

namespace Sys2Proof.Machine

@[simp] theorem give_ram (s : State) (r : Result) : (s.give r).ram = s.ram := rfl
@[simp] theorem give_psg (s : State) (r : Result) : (s.give r).psg = s.psg := rfl
@[simp] theorem give_mfp (s : State) (r : Result) : (s.give r).mfp = s.mfp := rfl
@[simp] theorem give_dma (s : State) (r : Result) : (s.give r).dma = s.dma := rfl
@[simp] theorem give_sys (s : State) (r : Result) : (s.give r).sys = s.sys := rfl
@[simp] theorem give_song (s : State) (r : Result) : (s.give r).song = s.song := rfl
@[simp] theorem give_env (s : State) (r : Result) : (s.give r).env = s.env := rfl
@[simp] theorem give_out (s : State) (r : Result) : (s.give r).out = r := rfl

@[simp] theorem noDispatches_ram (s : State) : s.noDispatches.ram = s.ram := rfl
@[simp] theorem noDispatches_psg (s : State) : s.noDispatches.psg = s.psg := rfl
@[simp] theorem noDispatches_mfp (s : State) : s.noDispatches.mfp = s.mfp := rfl
@[simp] theorem noDispatches_dma (s : State) : s.noDispatches.dma = s.dma := rfl
@[simp] theorem noDispatches_sys (s : State) : s.noDispatches.sys = s.sys := rfl
@[simp] theorem noDispatches_song (s : State) : s.noDispatches.song = s.song := rfl
@[simp] theorem noDispatches_out (s : State) : s.noDispatches.out = s.out := rfl
@[simp] theorem noDispatches_env_queue (s : State) : s.noDispatches.env.queue = s.env.queue := rfl
@[simp] theorem noDispatches_env_runs (s : State) : s.noDispatches.env.runs = s.env.runs := rfl
@[simp] theorem noDispatches_env_outBuf (s : State) : s.noDispatches.env.outBuf = s.env.outBuf := rfl
@[simp] theorem noDispatches_env_visBuf (s : State) : s.noDispatches.env.visBuf = s.env.visBuf := rfl
@[simp] theorem noDispatches_env_dispatched (s : State) : s.noDispatches.env.dispatched = [] := rfl

@[simp] theorem sysReset_ram (rate : Nat) (s : State) : (s.sysReset rate).ram = [] := rfl
@[simp] theorem sysReset_psg (rate : Nat) (s : State) : (s.sysReset rate).psg = psgReset rate Config.ymClock := rfl
@[simp] theorem sysReset_mfp (rate : Nat) (s : State) : (s.sysReset rate).mfp = mfpReset rate := rfl
@[simp] theorem sysReset_dma (rate : Nat) (s : State) : (s.sysReset rate).dma = dmaReset rate := rfl
@[simp] theorem sysReset_song (rate : Nat) (s : State) : (s.sysReset rate).song = s.song := rfl
@[simp] theorem sysReset_env (rate : Nat) (s : State) : (s.sysReset rate).env = s.env := rfl
@[simp] theorem sysReset_out (rate : Nat) (s : State) : (s.sysReset rate).out = s.out := rfl
@[simp] theorem sysReset_n (rate : Nat) (s : State) : (s.sysReset rate).sys.n = 0 := rfl
@[simp] theorem sysReset_vis (rate : Nat) (s : State) : (s.sysReset rate).sys.vis = 0 := rfl
@[simp] theorem sysReset_invalid (rate : Nat) (s : State) : (s.sysReset rate).sys.invalid = s.sys.invalid := rfl

@[simp] theorem putPacket_ram (s : State) (p : Packet) : (putPacket s p).ram = s.ram := rfl
@[simp] theorem putPacket_psg (s : State) (p : Packet) : (putPacket s p).psg = s.psg := rfl
@[simp] theorem putPacket_mfp (s : State) (p : Packet) : (putPacket s p).mfp = s.mfp := rfl
@[simp] theorem putPacket_dma (s : State) (p : Packet) : (putPacket s p).dma = s.dma := rfl
@[simp] theorem putPacket_sys (s : State) (p : Packet) : (putPacket s p).sys = s.sys := rfl
@[simp] theorem putPacket_song (s : State) (p : Packet) : (putPacket s p).song = s.song := rfl
@[simp] theorem putPacket_out (s : State) (p : Packet) : (putPacket s p).out = s.out := rfl
@[simp] theorem putPacket_queue (s : State) (p : Packet) : (putPacket s p).env.queue = .op p :: s.env.queue := rfl

@[simp] theorem three_get_build {α : Type} (f : Voice → α) (v : Voice) : (Three.build f).get v = f v := by
  cases v <;> rfl

@[simp] theorem five_get_build {α : Type} (f : TimerId → α) (t : TimerId) : (Five.build f).get t = f t := by
  cases t <;> rfl

@[simp] theorem five_get_set_self {α : Type} (x : Five α) (t : TimerId) (v : α) : (x.set t v).get t = v := by
  simp [Five.set]

theorem five_get_set {α : Type} (x : Five α) (t u : TimerId) (v : α) :
    (x.set t v).get u = if u = t then v else x.get u := by
  simp [Five.set]

theorem five_get_set_ne {α : Type} (x : Five α) (v : α) : ∀ (t u : TimerId), u ≠ t → (x.set t v).get u = x.get u := by
  intro t u h
  simp [five_get_set, h]

theorem five_ext {α : Type} (x y : Five α) (h : ∀ t, x.get t = y.get t) : x = y := by
  have ha := h .A
  have hb := h .B
  have hc := h .C
  have hd := h .D
  have hg := h .GPI7
  cases x
  cases y
  simp_all [Five.get]

theorem three_ext {α : Type} (x y : Three α) (h : ∀ v, x.get v = y.get v) : x = y := by
  have ha := h .A
  have hb := h .B
  have hc := h .C
  cases x
  cases y
  simp_all [Three.get]

end Sys2Proof.Machine
end

