-- ==== Sys2Proof/Laws/Mfp.lean ====
section
/-! SUPPORT. What each operation of the timer controller can do to a timer, and what it keeps. -/

namespace Sys2Proof.Machine

/-! Register writes. -/

@[simp] theorem restartEnabled_get (before after : Mfp) (t : TimerId) :
    (before.restartEnabled after).timers.get t =
      if !before.en t && after.en t && after.delay t then (after.timers.get t).restart else after.timers.get t := by
  simp [Mfp.restartEnabled]

@[simp] theorem startControlled_get (before after : Mfp) (ts : List TimerId) (t : TimerId) :
    (before.startControlled after ts).timers.get t =
      if decide (t ∈ ts) && !before.counting t && after.counting t then { after.timers.get t with acc := 0 }
      else after.timers.get t := by
  simp [Mfp.startControlled]

@[simp] theorem writeData_get (m : Mfp) (t u : TimerId) (v : Byte) :
    (m.writeData t v).timers.get u = if u = t then (m.timers.get t).load v (m.stopped t) else m.timers.get u := by
  simp [Mfp.writeData, five_get_set]

@[simp] theorem signal_get (m : Mfp) (t u : TimerId) :
    (m.signal t).timers.get u = if u = t then { m.timers.get t with event := true } else m.timers.get u := by
  simp [Mfp.signal, five_get_set]

/-! The tick. -/

/-- A tick changes the timer ticked and nothing else. -/
theorem mfpTick_eq (m : Mfp) (t : TimerId) :
    (m.tick t).1 = { m with timers := m.timers.set t { (m.countTimer t).1 with event := false } } := rfl

@[simp] theorem mfpTick_get (m : Mfp) (t u : TimerId) :
    (m.tick t).1.timers.get u = if u = t then { (m.countTimer t).1 with event := false } else m.timers.get u := by
  simp [mfpTick_eq, five_get_set]

@[simp] theorem mfpTick_en (m : Mfp) (t u : TimerId) : (m.tick t).1.en u = m.en u := by cases u <;> rfl
@[simp] theorem mfpTick_msk (m : Mfp) (t u : TimerId) : (m.tick t).1.msk u = m.msk u := by cases u <;> rfl
@[simp] theorem mfpTick_ctrl (m : Mfp) (t u : TimerId) : (m.tick t).1.ctrl u = m.ctrl u := by cases u <;> rfl
@[simp] theorem mfpTick_host (m : Mfp) (t : TimerId) : (m.tick t).1.host = m.host := rfl

/-- A count-down changes the counter only. -/
theorem countDown_eq (x : Timer) : x.countDown.1 = { x with counter := x.countDown.1.counter } := by
  unfold Timer.countDown
  split <;> rfl

/-- Count-downs change the counter only. -/
theorem countDownN_eq : ∀ (n : Nat) (x : Timer),
    (Timer.countDownN n x).1 = { x with counter := (Timer.countDownN n x).1.counter }
  | 0, _ => rfl
  | n + 1, x => by
    show (Timer.countDownN n x.countDown.1).1 = { x with counter := (Timer.countDownN n x.countDown.1).1.counter }
    rw [countDownN_eq n x.countDown.1]
    have h := countDown_eq x
    have h1 : x.countDown.1.reload = x.reload := by rw [h]
    have h2 : x.countDown.1.acc = x.acc := by rw [h]
    have h3 : x.countDown.1.event = x.event := by rw [h]
    simp only [h1, h2, h3]

theorem reloadCount_bounds (x : Timer) : 1 ≤ x.reloadCount ∧ x.reloadCount ≤ 256 := by
  unfold Timer.reloadCount
  have h := x.reload.isLt
  split
  · omega
  · rename_i h0
    have : x.reload.toNat ≠ 0 := fun h' => h0 (BitVec.eq_of_toNat_eq (by simpa using h'))
    omega

/-- A count in range stays in range. -/
theorem countDown_bounds (x : Timer) (h : 1 ≤ x.counter ∧ x.counter ≤ 256) :
    1 ≤ x.countDown.1.counter ∧ x.countDown.1.counter ≤ 256 := by
  unfold Timer.countDown
  split
  · exact reloadCount_bounds x
  · simp only
    omega

theorem countDownN_bounds : ∀ (n : Nat) (x : Timer), 1 ≤ x.counter ∧ x.counter ≤ 256 →
    1 ≤ (Timer.countDownN n x).1.counter ∧ (Timer.countDownN n x).1.counter ≤ 256
  | 0, _, h => h
  | n + 1, x, h => countDownN_bounds n x.countDown.1 (countDown_bounds x h)

/-- What the counting part of a tick can do to a timer. -/
theorem countTimer_cases (m : Mfp) (t : TimerId) :
    (m.countTimer t = (m.timers.get t, false) ∧ (m.en t && m.eventMode t && (m.timers.get t).event) = false ∧
        m.counting t = false) ∨
      (m.countTimer t = (m.timers.get t).countDown ∧
        m.en t = true ∧ m.eventMode t = true ∧ (m.timers.get t).event = true) ∨
      (m.countTimer t = (m.timers.get t).delayTick (m.pre t * m.host) ∧ m.counting t = true) := by
  unfold Mfp.countTimer Mfp.counting Mfp.delay
  cases hen : m.en t <;> cases hev : m.eventMode t <;> cases hx : (m.timers.get t).event <;>
    cases hd : ((m.ctrl t).extractLsb' 0 3 != 0) <;> simp [hx]

/-- GPI7 is always in event mode (R31, R32). -/
@[simp] theorem gpi7_eventMode (m : Mfp) : m.eventMode .GPI7 = true := by
  show (0b1000#4).getLsbD 3 = true
  decide

@[simp] theorem gpi7_delay (m : Mfp) : m.delay .GPI7 = false := by
  simp [Mfp.delay]

end Sys2Proof.Machine
end

