-- ==== Sys2Proof/Laws/Dma.lean ====
section
/-! SUPPORT. What each operation of the DMA-PCM channel can do, and what it keeps. -/

namespace Sys2Proof.Machine

theorem sampleByte_bounds (ram : List Host.Cell) (a : BitVec 24) : -128 ≤ sampleByte ram a ∧ sampleByte ram a ≤ 127 := by
  have h1 := (memRead ram a.toNat).toInt_lt
  have h2 := (memRead ram a.toNat).le_toInt
  unfold sampleByte
  omega

/-- A fetch moves the pointer only, and a frame is within the range of two samples. -/
theorem fetch_spec (ram : List Host.Cell) (d : Dma) :
    (d.fetch ram).1 = { d with cur := (d.fetch ram).1.cur } ∧ -256 ≤ (d.fetch ram).2 ∧ (d.fetch ram).2 ≤ 254 := by
  have h1 := sampleByte_bounds ram d.cur
  have h2 := sampleByte_bounds ram (d.cur + 1)
  unfold Dma.fetch
  split
  · exact ⟨rfl, by simp only; omega, by simp only; omega⟩
  · exact ⟨rfl, by simp only; omega, by simp only; omega⟩

/-- Hearing a frame changes the level and the averaging pair only. -/
theorem hear_eq (d : Dma) (f : Int) :
    d.hear f = { d with level := (d.hear f).level, avgAcc := (d.hear f).avgAcc, parity := (d.hear f).parity } := by
  unfold Dma.hear
  split
  · split <;> rfl
  · rfl

/-- A buffer end fetches the pointers; without the loop bit it also stops the channel and clears the stream. -/
theorem bufferEnd_cases (d : Dma) :
    (d.loop = true ∧ d.bufferEnd = { d with cur := d.start, endp := d.endReg }) ∨
      (d.loop = false ∧ d.bufferEnd = { d with
        cur := d.start
        endp := d.endReg
        ctrl := d.ctrl &&& 0xFE
        acc := 0
        avgAcc := 0
        parity := false
        level := 0 }) := by
  unfold Dma.bufferEnd
  cases h : d.loop
  · exact .inr ⟨rfl, rfl⟩
  · exact .inl ⟨rfl, rfl⟩

/-- One turn of the loop: either the frame did not end the buffer, or it did. -/
theorem dmaFrame_cases (ram : List Host.Cell) (d : Dma) (m : Mfp) :
    let r := ({ d with acc := d.acc - d.host } : Dma).fetch ram
    let d1 := r.1.hear r.2
    (d1.cur < d1.endp ∧ dmaFrame ram d m = (d1, m)) ∨
      (d1.endp ≤ d1.cur ∧ dmaFrame ram d m = (d1.bufferEnd, m.bufferEnd)) := by
  simp only [dmaFrame]
  split
  · rename_i h
    exact .inr ⟨h, rfl⟩
  · rename_i h
    exact .inl ⟨by simpa using h, rfl⟩

/-- What every turn keeps, the loop keeps. -/
theorem dmaLoop_keeps (ram : List Host.Cell) (P : Dma → Mfp → Prop)
    (hP : ∀ d m, P d m → P (dmaFrame ram d m).1 (dmaFrame ram d m).2) :
    ∀ (n : Nat) (d : Dma) (m : Mfp), P d m → P (dmaLoop ram n d m).1 (dmaLoop ram n d m).2
  | 0, _, _, h => h
  | n + 1, d, m, h => by
    unfold dmaLoop
    dsimp only
    split
    · exact dmaLoop_keeps ram P hP n _ _ (hP d m h)
    · exact hP d m h

/-- The volume a command sets is in range. -/
theorem mwVol_le (n : Nat) : mwVol n ≤ 64 := by
  unfold mwVol
  omega

theorem mwVolume_le (n v : Nat) (h : mwVolume n = some v) : v ≤ 64 := by
  unfold mwVolume at h
  split at h
  · cases h
    exact mwVol_le _
  · cases h

end Sys2Proof.Machine
end

