-- ==== Sys2Proof/Laws/Psg.lean ====
section
/-! SUPPORT. What each operation of the sound chip can do: register stores, chip ticks and their frames and the bounds of
levels and volumes. -/

namespace Sys2Proof.Machine

/-! Registers. -/

@[simp] theorem reg_store (p : Psg) (n k : Fin 16) (v : Byte) :
    (p.store n v).reg k = if k = n then v &&& psgMask n else p.reg k := by
  simp only [Psg.store, Psg.reg, Vector.get_eq_getElem, Vector.getElem_set, Fin.ext_iff, eq_comm]

@[simp] theorem reg_writeReg (p : Psg) (n k : Fin 16) (v : Byte) :
    (p.writeReg n v).reg k = if k = n then v &&& psgMask n else p.reg k := by
  unfold Psg.writeReg
  split
  · exact reg_store p n k v
  · exact reg_store p n k v

/-- A register write changes the register and, for register 13, the envelope's position and counter. -/
theorem writeReg_eq (p : Psg) (n : Fin 16) (v : Byte) :
    p.writeReg n v =
      { p with
        regs := p.regs.set n.val (v &&& psgMask n) n.isLt
        envPos := if n = 13 then 0 else p.envPos
        envCnt := if n = 13 then 0 else p.envCnt } := by
  unfold Psg.writeReg
  split <;> rfl

/-! The chip tick. -/

/-- Whether a tick steps the shift register (R222). -/
def Psg.noiseDue (p : Psg) : Bool := !p.noiseHalf && decide (p.noisePeriod ≤ p.noiseCnt + 1)

/-- The noise step as one update. -/
theorem noiseStep_eq (p : Psg) :
    p.noiseStep =
      { p with
        noiseHalf := !p.noiseHalf
        noiseCnt := if p.noiseHalf then p.noiseCnt else if p.noisePeriod ≤ p.noiseCnt + 1 then 0 else p.noiseCnt + 1
        lfsr := if p.noiseDue then lfsrStep p.lfsr else p.lfsr
        noiseBit := if p.noiseDue then (lfsrStep p.lfsr).getLsbD 0 else p.noiseBit } := by
  unfold Psg.noiseStep Psg.noiseDue
  cases p.noiseHalf <;> by_cases h : p.noisePeriod ≤ p.noiseCnt + 1 <;> simp [h]

/-- The envelope step as one update. -/
theorem envStep_eq (p : Psg) :
    p.envStep =
      { p with
        envCnt := if p.envPeriod ≤ p.envCnt + 1 then 0 else p.envCnt + 1
        envPos := if p.envPeriod ≤ p.envCnt + 1 then (if p.envPos = 95 then 32 else p.envPos + 1) else p.envPos } := by
  unfold Psg.envStep
  split <;> rfl

/-- A chip tick as one update of the running generators. -/
theorem tick_eq (p : Psg) :
    p.tick =
      { p with
        tones := Three.build fun v => (p.tones.get v).step (p.tonePeriod v)
        noiseHalf := !p.noiseHalf
        noiseCnt := if p.noiseHalf then p.noiseCnt else if p.noisePeriod ≤ p.noiseCnt + 1 then 0 else p.noiseCnt + 1
        lfsr := if p.noiseDue then lfsrStep p.lfsr else p.lfsr
        noiseBit := if p.noiseDue then (lfsrStep p.lfsr).getLsbD 0 else p.noiseBit
        envCnt := if p.envPeriod ≤ p.envCnt + 1 then 0 else p.envCnt + 1
        envPos := if p.envPeriod ≤ p.envCnt + 1 then (if p.envPos = 95 then 32 else p.envPos + 1) else p.envPos } := by
  unfold Psg.tick
  rw [envStep_eq, noiseStep_eq]
  rfl

/-- A tick keeps everything but the running generators. -/
theorem tick_frame (p : Psg) :
    p.tick.regs = p.regs ∧ p.tick.sel = p.sel ∧ p.tick.resAcc = p.resAcc ∧ p.tick.clk8 = p.clk8 ∧
      p.tick.host = p.host ∧ p.tick.dcBuf = p.dcBuf ∧ p.tick.dcSum = p.dcSum ∧ p.tick.dcIdx = p.dcIdx := by
  rw [tick_eq]
  exact ⟨rfl, rfl, rfl, rfl, rfl, rfl, rfl, rfl⟩

/-- Ticks keep everything but the running generators. -/
theorem tickN_frame : ∀ (n : Nat) (p : Psg),
    (Psg.tickN n p).regs = p.regs ∧ (Psg.tickN n p).sel = p.sel ∧ (Psg.tickN n p).resAcc = p.resAcc ∧
      (Psg.tickN n p).clk8 = p.clk8 ∧ (Psg.tickN n p).host = p.host ∧ (Psg.tickN n p).dcBuf = p.dcBuf ∧
      (Psg.tickN n p).dcSum = p.dcSum ∧ (Psg.tickN n p).dcIdx = p.dcIdx
  | 0, _ => ⟨rfl, rfl, rfl, rfl, rfl, rfl, rfl, rfl⟩
  | n + 1, p => by
    obtain ⟨a, b, c, d, e, f, g, h⟩ := tickN_frame n p.tick
    obtain ⟨a', b', c', d', e', f', g', h'⟩ := tick_frame p
    exact ⟨a.trans a', b.trans b', c.trans c', d.trans d', e.trans e', f.trans f', g.trans g', h.trans h'⟩

theorem tickN_add : ∀ (m n : Nat) (p : Psg), Psg.tickN (m + n) p = Psg.tickN n (Psg.tickN m p)
  | 0, n, p => by rw [Nat.zero_add, Psg.tickN]
  | m + 1, n, p => by rw [Nat.add_right_comm, Psg.tickN, tickN_add m n p.tick, Psg.tickN]

/-- Ticks do not read the resampling accumulator. -/
theorem tick_resAcc (p : Psg) (r : Nat) : ({ p with resAcc := r } : Psg).tick = { p.tick with resAcc := r } := by
  rw [tick_eq, tick_eq]
  rfl

theorem tickN_resAcc : ∀ (n : Nat) (p : Psg) (r : Nat),
    Psg.tickN n { p with resAcc := r } = { Psg.tickN n p with resAcc := r }
  | 0, _, _ => rfl
  | n + 1, p, r => by rw [Psg.tickN, tick_resAcc, tickN_resAcc n p.tick r, Psg.tickN]

/-! Levels. -/

theorem envLevel_le (s : BitVec 4) (p : Nat) : envLevel s p ≤ 31 := by
  unfold envLevel ramp
  have : p % 32 < 32 := Nat.mod_lt _ (by decide)
  dsimp only
  repeat' split
  all_goals omega

theorem levelIndex_le (p : Psg) (v : Voice) : p.levelIndex v ≤ 31 := by
  unfold Psg.levelIndex
  dsimp only
  split
  · exact envLevel_le _ _
  · have := ((p.reg (levelReg v)).extractLsb' 0 4).isLt
    omega

theorem gatedIndex_le (p : Psg) (v : Voice) : p.gatedIndex v ≤ 31 := by
  unfold Psg.gatedIndex
  split
  · exact levelIndex_le p v
  · omega

theorem volTable_le : ∀ i, volTable i ≤ 65535
  | 0 => by simp [volTable]
  | i + 1 => by
    have h := (Config.volRaw (i + 1)).isLt
    have h' := volTable_le i
    simp only [volTable]
    omega

theorem rawSum_le (p : Psg) : p.rawSum ≤ 3 * 65535 := by
  have a := volTable_le (p.gatedIndex .A)
  have b := volTable_le (p.gatedIndex .B)
  have c := volTable_le (p.gatedIndex .C)
  unfold Psg.rawSum
  omega

end Sys2Proof.Machine
end

