-- ==== Sys2Proof/Laws/Bus.lean ====
section
/-! SUPPORT. What a bus transaction, a dispatch to the host and a step can do. -/

namespace Sys2Proof.Machine

/-! Bus transactions. -/

/-- A byte read changes the microwire's busy count at most. -/
theorem busRead8_eq (s : State) (a : Addr) :
    (busRead8 s a).1 = { s with dma := { s.dma with mwPending := (busRead8 s a).1.dma.mwPending } } := by
  unfold busRead8
  split <;> try rfl
  unfold Dma.afterRead8
  split <;> rfl

theorem busRead8_pending_le (s : State) (a : Addr) : (busRead8 s a).1.dma.mwPending ≤ s.dma.mwPending := by
  unfold busRead8
  split <;> try exact Nat.le_refl _
  unfold Dma.afterRead8
  split
  · exact Nat.sub_le _ _
  · exact Nat.le_refl _

/-- A byte write reaches RAM or one device. -/
theorem busWrite8_cases (s : State) (a : Addr) (v : Byte) :
    (region a = .ram ∧ busWrite8 s a v = { s with ram := memWrite s.ram a.toNat v }) ∨
      (region a = .psg ∧ busWrite8 s a v = { s with psg := s.psg.write8 (offsetOf a) v }) ∨
      (region a = .dma ∧ busWrite8 s a v = { s with dma := s.dma.write8 (offsetOf a) v }) ∨
      (region a = .mfp ∧ busWrite8 s a v = { s with mfp := s.mfp.write8 (offsetOf a) v }) ∨
      (region a = .openBus ∧ busWrite8 s a v = s) := by
  unfold busWrite8
  cases region a <;> simp

@[simp] theorem busWrite8_sys (s : State) (a : Addr) (v : Byte) : (busWrite8 s a v).sys = s.sys := by
  unfold busWrite8
  split <;> rfl

@[simp] theorem busWrite8_song (s : State) (a : Addr) (v : Byte) : (busWrite8 s a v).song = s.song := by
  unfold busWrite8
  split <;> rfl

@[simp] theorem busWrite8_env (s : State) (a : Addr) (v : Byte) : (busWrite8 s a v).env = s.env := by
  unfold busWrite8
  split <;> rfl

@[simp] theorem busWrite8_out (s : State) (a : Addr) (v : Byte) : (busWrite8 s a v).out = s.out := by
  unfold busWrite8
  split <;> rfl

/-- A write to the sound chip's window: nothing, the select, or the selected register. -/
theorem psgWrite8_cases (p : Psg) (off v : Byte) :
    p.write8 off v = p ∨ p.write8 off v = p.select v ∨ p.write8 off v = p.writeReg p.selReg v := by
  unfold Psg.write8
  split
  · exact .inl rfl
  · split
    · exact .inr (.inr rfl)
    · exact .inr (.inl rfl)

/-! Dispatches. -/

section Keeps
variable (P : State → Prop) (hr : ∀ s a, P s → P (busRead8 s a).1) (hw : ∀ s a v, P s → P (busWrite8 s a v))
include hr hw

theorem hostTx_keeps (s : State) (x : BusTx) (h : P s) : P (hostTx s x).1 := by
  cases x with
  | read a => exact hr s a h
  | write a v => exact hw s a v h

theorem hostTxs_keeps : ∀ (xs : List BusTx) (s : State), P s → P (hostTxs s xs).1
  | [], _, h => h
  | x :: xs, s, h => hostTxs_keeps xs (hostTx s x).1 (hostTx_keeps P hr hw s x h)

theorem hostSteps_keeps : ∀ (xs : List (List BusTx)) (b : Nat) (s : State), P s → P (hostSteps s xs b).1
  | [], _, _, h => h
  | _ :: _, 0, _, h => h
  | x :: xs, b + 1, s, h => hostSteps_keeps xs b (hostTxs s x).1 (hostTxs_keeps P hr hw x s h)

/-- What every bus transaction keeps, and the environment's records do not matter to, a dispatch keeps. -/
theorem hostDispatch_keeps (he : ∀ s e, P s → P { s with env := e }) (kind : DispatchKind) (target : Addr)
    (arg budget : Nat) (s : State) (h : P s) : P (hostDispatch kind target arg budget s) :=
  he _ _ (hostSteps_keeps P hr hw _ _ s h)

theorem irqDispatches_keeps (he : ∀ s e, P s → P { s with env := e }) (fired : Five Bool) :
    ∀ (ts : List TimerId) (s : State), P s → P (irqDispatches fired ts s)
  | [], _, h => h
  | t :: ts, s, h => by
    refine irqDispatches_keeps he fired ts _ ?_
    split
    · exact hostDispatch_keeps P hr hw he _ _ _ _ s h
    · exact h

/-- What every bus transaction and the timer ticks keep, the host's part of a sample keeps. -/
theorem hostPhase_keeps (he : ∀ s e, P s → P { s with env := e })
    (ht : ∀ s, P s → P { s with mfp := s.mfp.tickAll.1 }) (s : State) (h : P s) : P (hostPhase s) := by
  refine irqDispatches_keeps P hr hw he _ _ _ (ht _ ?_)
  unfold playerTick
  split
  · exact hostDispatch_keeps P hr hw he _ _ _ _ s h
  · exact h

/-- What bus transactions, timer ticks and the devices' part keep, a sample keeps. -/
theorem sampleStep_keeps (he : ∀ s e, P s → P { s with env := e })
    (ht : ∀ s, P s → P { s with mfp := s.mfp.tickAll.1 }) (hd : ∀ s, P s → P (devicePhase s).1) (s : State) (h : P s) :
    P (sampleStep s).1 :=
  hd _ (hostPhase_keeps P hr hw he ht s h)

theorem renderN_keeps (he : ∀ s e, P s → P { s with env := e })
    (ht : ∀ s, P s → P { s with mfp := s.mfp.tickAll.1 }) (hd : ∀ s, P s → P (devicePhase s).1) (vis : Bool) :
    ∀ (n : Nat) (s : State), P s → P (renderN vis n s).1
  | 0, _, h => h
  | n + 1, s, h =>
    renderN_keeps he ht hd vis n (renderOne vis s) (he _ _ (sampleStep_keeps P hr hw he ht hd s h))

end Keeps

/-- Transactions after others. -/
theorem hostTxs_append : ∀ (xs ys : List BusTx) (s : State), hostTxs s (xs ++ ys) =
    ((hostTxs (hostTxs s xs).1 ys).1, (hostTxs s xs).2 ++ (hostTxs (hostTxs s xs).1 ys).2)
  | [], _, _ => rfl
  | x :: xs, ys, s => by simp [hostTxs, hostTxs_append xs ys]

/-- What a dispatch's host steps do: the transactions of as many of them as the budget allows, in order (R503). -/
theorem hostSteps_eq : ∀ (xs : List (List BusTx)) (b : Nat) (s : State),
    hostSteps s xs b = hostTxs s (xs.take b).flatten
  | [], _, _ => by simp [hostSteps, hostTxs]
  | _ :: _, 0, _ => rfl
  | x :: xs, b + 1, s => by simp [hostSteps, hostTxs_append, hostSteps_eq xs b]

@[simp] theorem hostTxs_env (s : State) (xs : List BusTx) : (hostTxs s xs).1.env = s.env :=
  hostTxs_keeps (fun t => t.env = s.env) (fun t a h => by rw [busRead8_eq]; exact h)
    (fun t a v h => by simpa using h) xs s rfl

/-- A dispatch leaves the sample index, the host arguments and the last result alone. -/
theorem hostDispatch_frame (kind : DispatchKind) (target : Addr) (arg budget : Nat) (s : State) :
    (hostDispatch kind target arg budget s).sys = s.sys ∧ (hostDispatch kind target arg budget s).song = s.song ∧
      (hostDispatch kind target arg budget s).out = s.out :=
  hostDispatch_keeps (fun t => t.sys = s.sys ∧ t.song = s.song ∧ t.out = s.out)
    (fun t a h => by rw [busRead8_eq]; exact h)
    (fun t a v h => by simpa using h) (fun _ _ h => h) kind target arg budget s ⟨rfl, rfl, rfl⟩

/-! The step. -/

/-- What a step can do. -/
theorem step_cases {s t : State} (h : step s = .next t) :
    s.sys.invalid = false ∧
      ((s.env.queue = [] ∧ t = s) ∨
        ∃ r q, s.env.queue = r :: q ∧
          runRequest { s with env := { s.env with queue := q } } r = .next t) := by
  unfold step runNext takeRequest at h
  cases hi : s.sys.invalid
  · refine ⟨rfl, ?_⟩
    simp only [hi, Bool.false_eq_true, if_false] at h
    cases hq : s.env.queue with
    | nil =>
      simp only [hq] at h
      exact .inl ⟨rfl, by injection h with h; exact h.symm⟩
    | cons r q =>
      simp only [hq] at h
      exact .inr ⟨r, q, rfl, h⟩
  · simp [hi] at h

/-- What a request can do. -/
theorem runRequest_cases {s t : State} {r : Request} (h : runRequest s r = .next t) :
    (∃ p i, r = .op p ∧ decode p = .ok i ∧ exec i s = .next t) ∨
      (∃ p, r = .pseudo p ∧ t = runPseudo s p) ∨
      (∃ blob a, r = .upload blob a ∧ t = runUpload s blob a) ∨
      (∃ e a n, r = .callAndWait e a n ∧ t = runCall s e a n) ∨
      (∃ n v, r = .render n v ∧ t = runRender s n v) ∨
      (∃ song, r = .arguments song ∧ song.spt ≠ 0 ∧ t = { s with song := song }) ∨
      (∃ runs, r = .oracle runs ∧ t = { s with env := { s.env with runs := s.env.runs ++ runs } }) := by
  cases r with
  | op p =>
    simp only [runRequest, runPacket] at h
    cases hd : decode p with
    | error e => simp [hd] at h
    | ok i =>
      simp only [hd] at h
      exact .inl ⟨p, i, rfl, hd, h⟩
  | pseudo p => exact .inr (.inl ⟨p, rfl, by injection h with h; exact h.symm⟩)
  | upload b a => exact .inr (.inr (.inl ⟨b, a, rfl, by injection h with h; exact h.symm⟩))
  | callAndWait e a n => exact .inr (.inr (.inr (.inl ⟨e, a, n, rfl, by injection h with h; exact h.symm⟩)))
  | render n v => exact .inr (.inr (.inr (.inr (.inl ⟨n, v, rfl, by injection h with h; exact h.symm⟩))))
  | arguments song =>
    simp only [runRequest] at h
    split at h
    · cases h
    · rename_i hs
      exact .inr (.inr (.inr (.inr (.inr (.inl ⟨song, rfl, hs, by injection h with h; exact h.symm⟩)))))
  | oracle runs =>
    exact .inr (.inr (.inr (.inr (.inr (.inr ⟨runs, rfl, by injection h with h; exact h.symm⟩)))))
  | fatal w => simp [runRequest] at h

end Sys2Proof.Machine
end

