-- ==== Sys2Proof/Laws/PerInstr.lean ====
section
/-! SUPPORT. Statements made per instruction. `TableRow`: the encoding of a well-formed operation has the format and the
fixed bits of its row of spec/opcode_table.json (30_encoding R100 to R103). -/

namespace Sys2Proof

/-- The format, mask and match of an operation's row of the opcode table. -/
def Laws.rowBits : Instr → Format × BitVec 26 × BitVec 26
  | .ramR8 _ => (.bus8, 0x3000000, 0x0000000)
  | .ramW8 _ _ => (.bus8, 0x3000000, 0x2000000)
  | .psgSelW8 _ _ => (.bus8, 0x3FFFF03, 0x2FF8800)
  | .psgSelR8 _ => (.bus8, 0x3FFFF03, 0x0FF8800)
  | .psgDataW8 _ _ => (.bus8, 0x3FFFF03, 0x2FF8802)
  | .psgDataR8 _ => (.bus8, 0x3FFFF03, 0x0FF8802)
  | .psgOddW8 _ _ => (.bus8, 0x3FFFF01, 0x2FF8801)
  | .psgOddR8 _ => (.bus8, 0x3FFFF01, 0x0FF8801)
  | .dmaCtrlR8 => (.bus8, 0x3FFFFFF, 0x0FF8901)
  | .dmaCtrlW8 _ => (.bus8, 0x3FFFFFF, 0x2FF8901)
  | .dmaStartHiR8 => (.bus8, 0x3FFFFFF, 0x0FF8903)
  | .dmaStartHiW8 _ => (.bus8, 0x3FFFFFF, 0x2FF8903)
  | .dmaStartMidR8 => (.bus8, 0x3FFFFFF, 0x0FF8905)
  | .dmaStartMidW8 _ => (.bus8, 0x3FFFFFF, 0x2FF8905)
  | .dmaStartLoR8 => (.bus8, 0x3FFFFFF, 0x0FF8907)
  | .dmaStartLoW8 _ => (.bus8, 0x3FFFFFF, 0x2FF8907)
  | .dmaCntHiR8 => (.bus8, 0x3FFFFFF, 0x0FF8909)
  | .dmaCntHiW8 _ => (.bus8, 0x3FFFFFF, 0x2FF8909)
  | .dmaCntMidR8 => (.bus8, 0x3FFFFFF, 0x0FF890B)
  | .dmaCntMidW8 _ => (.bus8, 0x3FFFFFF, 0x2FF890B)
  | .dmaCntLoR8 => (.bus8, 0x3FFFFFF, 0x0FF890D)
  | .dmaCntLoW8 _ => (.bus8, 0x3FFFFFF, 0x2FF890D)
  | .dmaEndHiR8 => (.bus8, 0x3FFFFFF, 0x0FF890F)
  | .dmaEndHiW8 _ => (.bus8, 0x3FFFFFF, 0x2FF890F)
  | .dmaEndMidR8 => (.bus8, 0x3FFFFFF, 0x0FF8911)
  | .dmaEndMidW8 _ => (.bus8, 0x3FFFFFF, 0x2FF8911)
  | .dmaEndLoR8 => (.bus8, 0x3FFFFFF, 0x0FF8913)
  | .dmaEndLoW8 _ => (.bus8, 0x3FFFFFF, 0x2FF8913)
  | .dmaModeR8 => (.bus8, 0x3FFFFFF, 0x0FF8921)
  | .dmaModeW8 _ => (.bus8, 0x3FFFFFF, 0x2FF8921)
  | .dmaMwDataHiR8 => (.bus8, 0x3FFFFFF, 0x0FF8922)
  | .dmaMwDataHiW8 _ => (.bus8, 0x3FFFFFF, 0x2FF8922)
  | .dmaMwDataLoR8 => (.bus8, 0x3FFFFFF, 0x0FF8923)
  | .dmaMwDataLoW8 _ => (.bus8, 0x3FFFFFF, 0x2FF8923)
  | .dmaMwMaskHiR8 => (.bus8, 0x3FFFFFF, 0x0FF8924)
  | .dmaMwMaskHiW8 _ => (.bus8, 0x3FFFFFF, 0x2FF8924)
  | .dmaMwMaskLoR8 => (.bus8, 0x3FFFFFF, 0x0FF8925)
  | .dmaMwMaskLoW8 _ => (.bus8, 0x3FFFFFF, 0x2FF8925)
  | .dmaUnusedR8 _ => (.bus8, 0x3FFFF00, 0x0FF8900)
  | .dmaUnusedW8 _ _ => (.bus8, 0x3FFFF00, 0x2FF8900)
  | .mfpGpipR8 => (.bus8, 0x3FFFFFF, 0x0FFFA01)
  | .mfpGpipW8 _ => (.bus8, 0x3FFFFFF, 0x2FFFA01)
  | .mfpAerR8 => (.bus8, 0x3FFFFFF, 0x0FFFA03)
  | .mfpAerW8 _ => (.bus8, 0x3FFFFFF, 0x2FFFA03)
  | .mfpDdrR8 => (.bus8, 0x3FFFFFF, 0x0FFFA05)
  | .mfpDdrW8 _ => (.bus8, 0x3FFFFFF, 0x2FFFA05)
  | .mfpIeraR8 => (.bus8, 0x3FFFFFF, 0x0FFFA07)
  | .mfpIeraW8 _ => (.bus8, 0x3FFFFFF, 0x2FFFA07)
  | .mfpIerbR8 => (.bus8, 0x3FFFFFF, 0x0FFFA09)
  | .mfpIerbW8 _ => (.bus8, 0x3FFFFFF, 0x2FFFA09)
  | .mfpIpraR8 => (.bus8, 0x3FFFFFF, 0x0FFFA0B)
  | .mfpIpraW8 _ => (.bus8, 0x3FFFFFF, 0x2FFFA0B)
  | .mfpIprbR8 => (.bus8, 0x3FFFFFF, 0x0FFFA0D)
  | .mfpIprbW8 _ => (.bus8, 0x3FFFFFF, 0x2FFFA0D)
  | .mfpIsraR8 => (.bus8, 0x3FFFFFF, 0x0FFFA0F)
  | .mfpIsraW8 _ => (.bus8, 0x3FFFFFF, 0x2FFFA0F)
  | .mfpIsrbR8 => (.bus8, 0x3FFFFFF, 0x0FFFA11)
  | .mfpIsrbW8 _ => (.bus8, 0x3FFFFFF, 0x2FFFA11)
  | .mfpImraR8 => (.bus8, 0x3FFFFFF, 0x0FFFA13)
  | .mfpImraW8 _ => (.bus8, 0x3FFFFFF, 0x2FFFA13)
  | .mfpImrbR8 => (.bus8, 0x3FFFFFF, 0x0FFFA15)
  | .mfpImrbW8 _ => (.bus8, 0x3FFFFFF, 0x2FFFA15)
  | .mfpVrR8 => (.bus8, 0x3FFFFFF, 0x0FFFA17)
  | .mfpVrW8 _ => (.bus8, 0x3FFFFFF, 0x2FFFA17)
  | .mfpTacrR8 => (.bus8, 0x3FFFFFF, 0x0FFFA19)
  | .mfpTacrW8 _ => (.bus8, 0x3FFFFFF, 0x2FFFA19)
  | .mfpTbcrR8 => (.bus8, 0x3FFFFFF, 0x0FFFA1B)
  | .mfpTbcrW8 _ => (.bus8, 0x3FFFFFF, 0x2FFFA1B)
  | .mfpTcdcrR8 => (.bus8, 0x3FFFFFF, 0x0FFFA1D)
  | .mfpTcdcrW8 _ => (.bus8, 0x3FFFFFF, 0x2FFFA1D)
  | .mfpTadrR8 => (.bus8, 0x3FFFFFF, 0x0FFFA1F)
  | .mfpTadrW8 _ => (.bus8, 0x3FFFFFF, 0x2FFFA1F)
  | .mfpTbdrR8 => (.bus8, 0x3FFFFFF, 0x0FFFA21)
  | .mfpTbdrW8 _ => (.bus8, 0x3FFFFFF, 0x2FFFA21)
  | .mfpTcdrR8 => (.bus8, 0x3FFFFFF, 0x0FFFA23)
  | .mfpTcdrW8 _ => (.bus8, 0x3FFFFFF, 0x2FFFA23)
  | .mfpTddrR8 => (.bus8, 0x3FFFFFF, 0x0FFFA25)
  | .mfpTddrW8 _ => (.bus8, 0x3FFFFFF, 0x2FFFA25)
  | .mfpEvenR8 _ => (.bus8, 0x3FFFF01, 0x0FFFA00)
  | .mfpEvenW8 _ _ => (.bus8, 0x3FFFF01, 0x2FFFA00)
  | .openR8 _ => (.bus8, 0x3000000, 0x0000000)
  | .openW8 _ _ => (.bus8, 0x3000000, 0x2000000)
  | .psgWrR0 _ => (.psgreg, 0xF, 0x0)
  | .psgWrR1 _ => (.psgreg, 0xF, 0x1)
  | .psgWrR2 _ => (.psgreg, 0xF, 0x2)
  | .psgWrR3 _ => (.psgreg, 0xF, 0x3)
  | .psgWrR4 _ => (.psgreg, 0xF, 0x4)
  | .psgWrR5 _ => (.psgreg, 0xF, 0x5)
  | .psgWrR6 _ => (.psgreg, 0xF, 0x6)
  | .psgWrR7 _ => (.psgreg, 0xF, 0x7)
  | .psgWrR8 _ => (.psgreg, 0xF, 0x8)
  | .psgWrR9 _ => (.psgreg, 0xF, 0x9)
  | .psgWrR10 _ => (.psgreg, 0xF, 0xA)
  | .psgWrR11 _ => (.psgreg, 0xF, 0xB)
  | .psgWrR12 _ => (.psgreg, 0xF, 0xC)
  | .psgWrR13 _ => (.psgreg, 0xF, 0xD)
  | .psgWrR14 _ => (.psgreg, 0xF, 0xE)
  | .psgWrR15 _ => (.psgreg, 0xF, 0xF)
  | .sysReset _ => (.internal, 0xF, 0x0)
  | .sysSample => (.internal, 0xF, 0x1)
  | .psgReset _ _ => (.internal, 0xF, 0x2)
  | .psgTick => (.internal, 0xF, 0x3)
  | .psgSample => (.internal, 0xF, 0x4)
  | .mfpReset _ => (.internal, 0xF, 0x5)
  | .mfpTick _ => (.internal, 0x78, 0x30)
  | .mfpSignal _ => (.internal, 0x78, 0x38)
  | .dmaReset _ => (.internal, 0xF, 0x8)
  | .dmaSample => (.internal, 0xF, 0x9)

/-- The encoding has the format and the fixed bits of the operation's row. -/
def Laws.TableRow.Statement (i : Instr) : Prop :=
  i.wf = true → (encode i).fmt = (Laws.rowBits i).1 ∧ (encode i).key &&& (Laws.rowBits i).2.1 = (Laws.rowBits i).2.2

/-- The fixed bits of a write's key do not depend on its data. -/
theorem Laws.writeKey {a : Addr} {d : Byte} {mask v : BitVec 26} (h : (0b10#2 ++ a) &&& mask = v) :
    (writeAt a d).key &&& mask = v := h

/-- The fixed bits of a PSGREG key do not depend on the data. -/
theorem Laws.psgKey {n : Nat} {d : Byte} {mask v : BitVec 26} (h : BitVec.ofNat 26 n &&& mask = v) :
    (psgRegPacket n d).key &&& mask = v := h

/-- The fixed bits of an INTERNAL key do not depend on the operands. -/
theorem Laws.internalKey {n x y : Nat} {mask v : BitVec 26} (h : BitVec.ofNat 26 n &&& mask = v) :
    (internalPacket n x y).key &&& mask = v := h

/-- The two top bits of a key are those of its transaction. -/
theorem Laws.key_top (h : BitVec 2) (a : Addr) : (h ++ a) &&& 0x3000000#26 = h ++ 0#24 := by
  have t : ∀ z : BitVec 2, z &&& 3#2 = z := by decide
  rw [show (0x3000000#26) = 3#2 ++ 0#24 from rfl, BitVec.and_append, BitVec.and_zero, t]

theorem Laws.TableRow.ramR8 (a : Addr) : Laws.TableRow.Statement (.ramR8 a) :=
  fun _ => ⟨rfl, Laws.key_top _ a⟩

theorem Laws.TableRow.ramW8 (a : Addr) (d : Byte) : Laws.TableRow.Statement (.ramW8 a d) :=
  fun _ => ⟨rfl, Laws.key_top _ a⟩

theorem Laws.TableRow.psgSelW8 (m : BitVec 6) (d : Byte) : Laws.TableRow.Statement (.psgSelW8 m d) :=
  fun h => ⟨rfl, Laws.writeKey (mask := 0x3FFFF03) (v := 0x2FF8800) (by clear h; revert m; decide)⟩

theorem Laws.TableRow.psgSelR8 (m : BitVec 6) : Laws.TableRow.Statement (.psgSelR8 m) :=
  fun h => ⟨rfl, (by clear h; revert m; decide)⟩

theorem Laws.TableRow.psgDataW8 (m : BitVec 6) (d : Byte) : Laws.TableRow.Statement (.psgDataW8 m d) :=
  fun h => ⟨rfl, Laws.writeKey (mask := 0x3FFFF03) (v := 0x2FF8802) (by clear h; revert m; decide)⟩

theorem Laws.TableRow.psgDataR8 (m : BitVec 6) : Laws.TableRow.Statement (.psgDataR8 m) :=
  fun h => ⟨rfl, (by clear h; revert m; decide)⟩

theorem Laws.TableRow.psgOddW8 (m : BitVec 7) (d : Byte) : Laws.TableRow.Statement (.psgOddW8 m d) :=
  fun h => ⟨rfl, Laws.writeKey (mask := 0x3FFFF01) (v := 0x2FF8801) (by clear h; revert m; decide)⟩

theorem Laws.TableRow.psgOddR8 (m : BitVec 7) : Laws.TableRow.Statement (.psgOddR8 m) :=
  fun h => ⟨rfl, (by clear h; revert m; decide)⟩

theorem Laws.TableRow.dmaCtrlR8 : Laws.TableRow.Statement (.dmaCtrlR8) :=
  fun _ => ⟨rfl, rfl⟩

theorem Laws.TableRow.dmaCtrlW8 (d : Byte) : Laws.TableRow.Statement (.dmaCtrlW8 d) :=
  fun _ => ⟨rfl, Laws.writeKey (mask := 0x3FFFFFF) (v := 0x2FF8901) (by decide)⟩

theorem Laws.TableRow.dmaStartHiR8 : Laws.TableRow.Statement (.dmaStartHiR8) :=
  fun _ => ⟨rfl, rfl⟩

theorem Laws.TableRow.dmaStartHiW8 (d : Byte) : Laws.TableRow.Statement (.dmaStartHiW8 d) :=
  fun _ => ⟨rfl, Laws.writeKey (mask := 0x3FFFFFF) (v := 0x2FF8903) (by decide)⟩

theorem Laws.TableRow.dmaStartMidR8 : Laws.TableRow.Statement (.dmaStartMidR8) :=
  fun _ => ⟨rfl, rfl⟩

theorem Laws.TableRow.dmaStartMidW8 (d : Byte) : Laws.TableRow.Statement (.dmaStartMidW8 d) :=
  fun _ => ⟨rfl, Laws.writeKey (mask := 0x3FFFFFF) (v := 0x2FF8905) (by decide)⟩

theorem Laws.TableRow.dmaStartLoR8 : Laws.TableRow.Statement (.dmaStartLoR8) :=
  fun _ => ⟨rfl, rfl⟩

theorem Laws.TableRow.dmaStartLoW8 (d : Byte) : Laws.TableRow.Statement (.dmaStartLoW8 d) :=
  fun _ => ⟨rfl, Laws.writeKey (mask := 0x3FFFFFF) (v := 0x2FF8907) (by decide)⟩

theorem Laws.TableRow.dmaCntHiR8 : Laws.TableRow.Statement (.dmaCntHiR8) :=
  fun _ => ⟨rfl, rfl⟩

theorem Laws.TableRow.dmaCntHiW8 (d : Byte) : Laws.TableRow.Statement (.dmaCntHiW8 d) :=
  fun _ => ⟨rfl, Laws.writeKey (mask := 0x3FFFFFF) (v := 0x2FF8909) (by decide)⟩

theorem Laws.TableRow.dmaCntMidR8 : Laws.TableRow.Statement (.dmaCntMidR8) :=
  fun _ => ⟨rfl, rfl⟩

theorem Laws.TableRow.dmaCntMidW8 (d : Byte) : Laws.TableRow.Statement (.dmaCntMidW8 d) :=
  fun _ => ⟨rfl, Laws.writeKey (mask := 0x3FFFFFF) (v := 0x2FF890B) (by decide)⟩

theorem Laws.TableRow.dmaCntLoR8 : Laws.TableRow.Statement (.dmaCntLoR8) :=
  fun _ => ⟨rfl, rfl⟩

theorem Laws.TableRow.dmaCntLoW8 (d : Byte) : Laws.TableRow.Statement (.dmaCntLoW8 d) :=
  fun _ => ⟨rfl, Laws.writeKey (mask := 0x3FFFFFF) (v := 0x2FF890D) (by decide)⟩

theorem Laws.TableRow.dmaEndHiR8 : Laws.TableRow.Statement (.dmaEndHiR8) :=
  fun _ => ⟨rfl, rfl⟩

theorem Laws.TableRow.dmaEndHiW8 (d : Byte) : Laws.TableRow.Statement (.dmaEndHiW8 d) :=
  fun _ => ⟨rfl, Laws.writeKey (mask := 0x3FFFFFF) (v := 0x2FF890F) (by decide)⟩

theorem Laws.TableRow.dmaEndMidR8 : Laws.TableRow.Statement (.dmaEndMidR8) :=
  fun _ => ⟨rfl, rfl⟩

theorem Laws.TableRow.dmaEndMidW8 (d : Byte) : Laws.TableRow.Statement (.dmaEndMidW8 d) :=
  fun _ => ⟨rfl, Laws.writeKey (mask := 0x3FFFFFF) (v := 0x2FF8911) (by decide)⟩

theorem Laws.TableRow.dmaEndLoR8 : Laws.TableRow.Statement (.dmaEndLoR8) :=
  fun _ => ⟨rfl, rfl⟩

theorem Laws.TableRow.dmaEndLoW8 (d : Byte) : Laws.TableRow.Statement (.dmaEndLoW8 d) :=
  fun _ => ⟨rfl, Laws.writeKey (mask := 0x3FFFFFF) (v := 0x2FF8913) (by decide)⟩

theorem Laws.TableRow.dmaModeR8 : Laws.TableRow.Statement (.dmaModeR8) :=
  fun _ => ⟨rfl, rfl⟩

theorem Laws.TableRow.dmaModeW8 (d : Byte) : Laws.TableRow.Statement (.dmaModeW8 d) :=
  fun _ => ⟨rfl, Laws.writeKey (mask := 0x3FFFFFF) (v := 0x2FF8921) (by decide)⟩

theorem Laws.TableRow.dmaMwDataHiR8 : Laws.TableRow.Statement (.dmaMwDataHiR8) :=
  fun _ => ⟨rfl, rfl⟩

theorem Laws.TableRow.dmaMwDataHiW8 (d : Byte) : Laws.TableRow.Statement (.dmaMwDataHiW8 d) :=
  fun _ => ⟨rfl, Laws.writeKey (mask := 0x3FFFFFF) (v := 0x2FF8922) (by decide)⟩

theorem Laws.TableRow.dmaMwDataLoR8 : Laws.TableRow.Statement (.dmaMwDataLoR8) :=
  fun _ => ⟨rfl, rfl⟩

theorem Laws.TableRow.dmaMwDataLoW8 (d : Byte) : Laws.TableRow.Statement (.dmaMwDataLoW8 d) :=
  fun _ => ⟨rfl, Laws.writeKey (mask := 0x3FFFFFF) (v := 0x2FF8923) (by decide)⟩

theorem Laws.TableRow.dmaMwMaskHiR8 : Laws.TableRow.Statement (.dmaMwMaskHiR8) :=
  fun _ => ⟨rfl, rfl⟩

theorem Laws.TableRow.dmaMwMaskHiW8 (d : Byte) : Laws.TableRow.Statement (.dmaMwMaskHiW8 d) :=
  fun _ => ⟨rfl, Laws.writeKey (mask := 0x3FFFFFF) (v := 0x2FF8924) (by decide)⟩

theorem Laws.TableRow.dmaMwMaskLoR8 : Laws.TableRow.Statement (.dmaMwMaskLoR8) :=
  fun _ => ⟨rfl, rfl⟩

theorem Laws.TableRow.dmaMwMaskLoW8 (d : Byte) : Laws.TableRow.Statement (.dmaMwMaskLoW8 d) :=
  fun _ => ⟨rfl, Laws.writeKey (mask := 0x3FFFFFF) (v := 0x2FF8925) (by decide)⟩

theorem Laws.TableRow.dmaUnusedR8 (off : Byte) : Laws.TableRow.Statement (.dmaUnusedR8 off) :=
  fun h => ⟨rfl, (by have g : Machine.dmaUnusedOffset off = true := h; clear h; revert off; decide)⟩

theorem Laws.TableRow.dmaUnusedW8 (off : Byte) (d : Byte) : Laws.TableRow.Statement (.dmaUnusedW8 off d) :=
  fun h => ⟨rfl, Laws.writeKey (mask := 0x3FFFF00) (v := 0x2FF8900) (by have g : Machine.dmaUnusedOffset off = true := h; clear h; revert off; decide)⟩

theorem Laws.TableRow.mfpGpipR8 : Laws.TableRow.Statement (.mfpGpipR8) :=
  fun _ => ⟨rfl, rfl⟩

theorem Laws.TableRow.mfpGpipW8 (d : Byte) : Laws.TableRow.Statement (.mfpGpipW8 d) :=
  fun _ => ⟨rfl, Laws.writeKey (mask := 0x3FFFFFF) (v := 0x2FFFA01) (by decide)⟩

theorem Laws.TableRow.mfpAerR8 : Laws.TableRow.Statement (.mfpAerR8) :=
  fun _ => ⟨rfl, rfl⟩

theorem Laws.TableRow.mfpAerW8 (d : Byte) : Laws.TableRow.Statement (.mfpAerW8 d) :=
  fun _ => ⟨rfl, Laws.writeKey (mask := 0x3FFFFFF) (v := 0x2FFFA03) (by decide)⟩

theorem Laws.TableRow.mfpDdrR8 : Laws.TableRow.Statement (.mfpDdrR8) :=
  fun _ => ⟨rfl, rfl⟩

theorem Laws.TableRow.mfpDdrW8 (d : Byte) : Laws.TableRow.Statement (.mfpDdrW8 d) :=
  fun _ => ⟨rfl, Laws.writeKey (mask := 0x3FFFFFF) (v := 0x2FFFA05) (by decide)⟩

theorem Laws.TableRow.mfpIeraR8 : Laws.TableRow.Statement (.mfpIeraR8) :=
  fun _ => ⟨rfl, rfl⟩

theorem Laws.TableRow.mfpIeraW8 (d : Byte) : Laws.TableRow.Statement (.mfpIeraW8 d) :=
  fun _ => ⟨rfl, Laws.writeKey (mask := 0x3FFFFFF) (v := 0x2FFFA07) (by decide)⟩

theorem Laws.TableRow.mfpIerbR8 : Laws.TableRow.Statement (.mfpIerbR8) :=
  fun _ => ⟨rfl, rfl⟩

theorem Laws.TableRow.mfpIerbW8 (d : Byte) : Laws.TableRow.Statement (.mfpIerbW8 d) :=
  fun _ => ⟨rfl, Laws.writeKey (mask := 0x3FFFFFF) (v := 0x2FFFA09) (by decide)⟩

theorem Laws.TableRow.mfpIpraR8 : Laws.TableRow.Statement (.mfpIpraR8) :=
  fun _ => ⟨rfl, rfl⟩

theorem Laws.TableRow.mfpIpraW8 (d : Byte) : Laws.TableRow.Statement (.mfpIpraW8 d) :=
  fun _ => ⟨rfl, Laws.writeKey (mask := 0x3FFFFFF) (v := 0x2FFFA0B) (by decide)⟩

theorem Laws.TableRow.mfpIprbR8 : Laws.TableRow.Statement (.mfpIprbR8) :=
  fun _ => ⟨rfl, rfl⟩

theorem Laws.TableRow.mfpIprbW8 (d : Byte) : Laws.TableRow.Statement (.mfpIprbW8 d) :=
  fun _ => ⟨rfl, Laws.writeKey (mask := 0x3FFFFFF) (v := 0x2FFFA0D) (by decide)⟩

theorem Laws.TableRow.mfpIsraR8 : Laws.TableRow.Statement (.mfpIsraR8) :=
  fun _ => ⟨rfl, rfl⟩

theorem Laws.TableRow.mfpIsraW8 (d : Byte) : Laws.TableRow.Statement (.mfpIsraW8 d) :=
  fun _ => ⟨rfl, Laws.writeKey (mask := 0x3FFFFFF) (v := 0x2FFFA0F) (by decide)⟩

theorem Laws.TableRow.mfpIsrbR8 : Laws.TableRow.Statement (.mfpIsrbR8) :=
  fun _ => ⟨rfl, rfl⟩

theorem Laws.TableRow.mfpIsrbW8 (d : Byte) : Laws.TableRow.Statement (.mfpIsrbW8 d) :=
  fun _ => ⟨rfl, Laws.writeKey (mask := 0x3FFFFFF) (v := 0x2FFFA11) (by decide)⟩

theorem Laws.TableRow.mfpImraR8 : Laws.TableRow.Statement (.mfpImraR8) :=
  fun _ => ⟨rfl, rfl⟩

theorem Laws.TableRow.mfpImraW8 (d : Byte) : Laws.TableRow.Statement (.mfpImraW8 d) :=
  fun _ => ⟨rfl, Laws.writeKey (mask := 0x3FFFFFF) (v := 0x2FFFA13) (by decide)⟩

theorem Laws.TableRow.mfpImrbR8 : Laws.TableRow.Statement (.mfpImrbR8) :=
  fun _ => ⟨rfl, rfl⟩

theorem Laws.TableRow.mfpImrbW8 (d : Byte) : Laws.TableRow.Statement (.mfpImrbW8 d) :=
  fun _ => ⟨rfl, Laws.writeKey (mask := 0x3FFFFFF) (v := 0x2FFFA15) (by decide)⟩

theorem Laws.TableRow.mfpVrR8 : Laws.TableRow.Statement (.mfpVrR8) :=
  fun _ => ⟨rfl, rfl⟩

theorem Laws.TableRow.mfpVrW8 (d : Byte) : Laws.TableRow.Statement (.mfpVrW8 d) :=
  fun _ => ⟨rfl, Laws.writeKey (mask := 0x3FFFFFF) (v := 0x2FFFA17) (by decide)⟩

theorem Laws.TableRow.mfpTacrR8 : Laws.TableRow.Statement (.mfpTacrR8) :=
  fun _ => ⟨rfl, rfl⟩

theorem Laws.TableRow.mfpTacrW8 (d : Byte) : Laws.TableRow.Statement (.mfpTacrW8 d) :=
  fun _ => ⟨rfl, Laws.writeKey (mask := 0x3FFFFFF) (v := 0x2FFFA19) (by decide)⟩

theorem Laws.TableRow.mfpTbcrR8 : Laws.TableRow.Statement (.mfpTbcrR8) :=
  fun _ => ⟨rfl, rfl⟩

theorem Laws.TableRow.mfpTbcrW8 (d : Byte) : Laws.TableRow.Statement (.mfpTbcrW8 d) :=
  fun _ => ⟨rfl, Laws.writeKey (mask := 0x3FFFFFF) (v := 0x2FFFA1B) (by decide)⟩

theorem Laws.TableRow.mfpTcdcrR8 : Laws.TableRow.Statement (.mfpTcdcrR8) :=
  fun _ => ⟨rfl, rfl⟩

theorem Laws.TableRow.mfpTcdcrW8 (d : Byte) : Laws.TableRow.Statement (.mfpTcdcrW8 d) :=
  fun _ => ⟨rfl, Laws.writeKey (mask := 0x3FFFFFF) (v := 0x2FFFA1D) (by decide)⟩

theorem Laws.TableRow.mfpTadrR8 : Laws.TableRow.Statement (.mfpTadrR8) :=
  fun _ => ⟨rfl, rfl⟩

theorem Laws.TableRow.mfpTadrW8 (d : Byte) : Laws.TableRow.Statement (.mfpTadrW8 d) :=
  fun _ => ⟨rfl, Laws.writeKey (mask := 0x3FFFFFF) (v := 0x2FFFA1F) (by decide)⟩

theorem Laws.TableRow.mfpTbdrR8 : Laws.TableRow.Statement (.mfpTbdrR8) :=
  fun _ => ⟨rfl, rfl⟩

theorem Laws.TableRow.mfpTbdrW8 (d : Byte) : Laws.TableRow.Statement (.mfpTbdrW8 d) :=
  fun _ => ⟨rfl, Laws.writeKey (mask := 0x3FFFFFF) (v := 0x2FFFA21) (by decide)⟩

theorem Laws.TableRow.mfpTcdrR8 : Laws.TableRow.Statement (.mfpTcdrR8) :=
  fun _ => ⟨rfl, rfl⟩

theorem Laws.TableRow.mfpTcdrW8 (d : Byte) : Laws.TableRow.Statement (.mfpTcdrW8 d) :=
  fun _ => ⟨rfl, Laws.writeKey (mask := 0x3FFFFFF) (v := 0x2FFFA23) (by decide)⟩

theorem Laws.TableRow.mfpTddrR8 : Laws.TableRow.Statement (.mfpTddrR8) :=
  fun _ => ⟨rfl, rfl⟩

theorem Laws.TableRow.mfpTddrW8 (d : Byte) : Laws.TableRow.Statement (.mfpTddrW8 d) :=
  fun _ => ⟨rfl, Laws.writeKey (mask := 0x3FFFFFF) (v := 0x2FFFA25) (by decide)⟩

theorem Laws.TableRow.mfpEvenR8 (off : Byte) : Laws.TableRow.Statement (.mfpEvenR8 off) :=
  fun h => ⟨rfl, (by have g : Machine.mfpEvenOffset off = true := h; clear h; revert off; decide)⟩

theorem Laws.TableRow.mfpEvenW8 (off : Byte) (d : Byte) : Laws.TableRow.Statement (.mfpEvenW8 off d) :=
  fun h => ⟨rfl, Laws.writeKey (mask := 0x3FFFF01) (v := 0x2FFFA00) (by have g : Machine.mfpEvenOffset off = true := h; clear h; revert off; decide)⟩

theorem Laws.TableRow.openR8 (a : Addr) : Laws.TableRow.Statement (.openR8 a) :=
  fun _ => ⟨rfl, Laws.key_top _ a⟩

theorem Laws.TableRow.openW8 (a : Addr) (d : Byte) : Laws.TableRow.Statement (.openW8 a d) :=
  fun _ => ⟨rfl, Laws.key_top _ a⟩

theorem Laws.TableRow.psgWrR0 (d : Byte) : Laws.TableRow.Statement (.psgWrR0 d) :=
  fun _ => ⟨rfl, Laws.psgKey (mask := 0xF) (v := 0x0) (by decide)⟩

theorem Laws.TableRow.psgWrR1 (d : Byte) : Laws.TableRow.Statement (.psgWrR1 d) :=
  fun _ => ⟨rfl, Laws.psgKey (mask := 0xF) (v := 0x1) (by decide)⟩

theorem Laws.TableRow.psgWrR2 (d : Byte) : Laws.TableRow.Statement (.psgWrR2 d) :=
  fun _ => ⟨rfl, Laws.psgKey (mask := 0xF) (v := 0x2) (by decide)⟩

theorem Laws.TableRow.psgWrR3 (d : Byte) : Laws.TableRow.Statement (.psgWrR3 d) :=
  fun _ => ⟨rfl, Laws.psgKey (mask := 0xF) (v := 0x3) (by decide)⟩

theorem Laws.TableRow.psgWrR4 (d : Byte) : Laws.TableRow.Statement (.psgWrR4 d) :=
  fun _ => ⟨rfl, Laws.psgKey (mask := 0xF) (v := 0x4) (by decide)⟩

theorem Laws.TableRow.psgWrR5 (d : Byte) : Laws.TableRow.Statement (.psgWrR5 d) :=
  fun _ => ⟨rfl, Laws.psgKey (mask := 0xF) (v := 0x5) (by decide)⟩

theorem Laws.TableRow.psgWrR6 (d : Byte) : Laws.TableRow.Statement (.psgWrR6 d) :=
  fun _ => ⟨rfl, Laws.psgKey (mask := 0xF) (v := 0x6) (by decide)⟩

theorem Laws.TableRow.psgWrR7 (d : Byte) : Laws.TableRow.Statement (.psgWrR7 d) :=
  fun _ => ⟨rfl, Laws.psgKey (mask := 0xF) (v := 0x7) (by decide)⟩

theorem Laws.TableRow.psgWrR8 (d : Byte) : Laws.TableRow.Statement (.psgWrR8 d) :=
  fun _ => ⟨rfl, Laws.psgKey (mask := 0xF) (v := 0x8) (by decide)⟩

theorem Laws.TableRow.psgWrR9 (d : Byte) : Laws.TableRow.Statement (.psgWrR9 d) :=
  fun _ => ⟨rfl, Laws.psgKey (mask := 0xF) (v := 0x9) (by decide)⟩

theorem Laws.TableRow.psgWrR10 (d : Byte) : Laws.TableRow.Statement (.psgWrR10 d) :=
  fun _ => ⟨rfl, Laws.psgKey (mask := 0xF) (v := 0xA) (by decide)⟩

theorem Laws.TableRow.psgWrR11 (d : Byte) : Laws.TableRow.Statement (.psgWrR11 d) :=
  fun _ => ⟨rfl, Laws.psgKey (mask := 0xF) (v := 0xB) (by decide)⟩

theorem Laws.TableRow.psgWrR12 (d : Byte) : Laws.TableRow.Statement (.psgWrR12 d) :=
  fun _ => ⟨rfl, Laws.psgKey (mask := 0xF) (v := 0xC) (by decide)⟩

theorem Laws.TableRow.psgWrR13 (d : Byte) : Laws.TableRow.Statement (.psgWrR13 d) :=
  fun _ => ⟨rfl, Laws.psgKey (mask := 0xF) (v := 0xD) (by decide)⟩

theorem Laws.TableRow.psgWrR14 (d : Byte) : Laws.TableRow.Statement (.psgWrR14 d) :=
  fun _ => ⟨rfl, Laws.psgKey (mask := 0xF) (v := 0xE) (by decide)⟩

theorem Laws.TableRow.psgWrR15 (d : Byte) : Laws.TableRow.Statement (.psgWrR15 d) :=
  fun _ => ⟨rfl, Laws.psgKey (mask := 0xF) (v := 0xF) (by decide)⟩

theorem Laws.TableRow.sysReset (rate : Nat) : Laws.TableRow.Statement (.sysReset rate) :=
  fun _ => ⟨rfl, Laws.internalKey (mask := 0xF) (v := 0x0) (by decide)⟩

theorem Laws.TableRow.sysSample : Laws.TableRow.Statement (.sysSample) :=
  fun _ => ⟨rfl, rfl⟩

theorem Laws.TableRow.psgReset (rate : Nat) (clock : Nat) : Laws.TableRow.Statement (.psgReset rate clock) :=
  fun _ => ⟨rfl, Laws.internalKey (mask := 0xF) (v := 0x2) (by decide)⟩

theorem Laws.TableRow.psgTick : Laws.TableRow.Statement (.psgTick) :=
  fun _ => ⟨rfl, rfl⟩

theorem Laws.TableRow.psgSample : Laws.TableRow.Statement (.psgSample) :=
  fun _ => ⟨rfl, rfl⟩

theorem Laws.TableRow.mfpReset (rate : Nat) : Laws.TableRow.Statement (.mfpReset rate) :=
  fun _ => ⟨rfl, Laws.internalKey (mask := 0xF) (v := 0x5) (by decide)⟩

theorem Laws.TableRow.mfpTick (t : TimerId) : Laws.TableRow.Statement (.mfpTick t) :=
  by cases t <;> exact fun _ => ⟨rfl, rfl⟩

theorem Laws.TableRow.mfpSignal (t : TimerId) : Laws.TableRow.Statement (.mfpSignal t) :=
  by cases t <;> exact fun _ => ⟨rfl, rfl⟩

theorem Laws.TableRow.dmaReset (rate : Nat) : Laws.TableRow.Statement (.dmaReset rate) :=
  fun _ => ⟨rfl, Laws.internalKey (mask := 0xF) (v := 0x8) (by decide)⟩

theorem Laws.TableRow.dmaSample : Laws.TableRow.Statement (.dmaSample) :=
  fun _ => ⟨rfl, rfl⟩

end Sys2Proof
end

