-- ==== Sys2Proof/Tests/Slice0.lean ====
section
/-! SUPPORT. Tests: ill-formed terms that the checks refuse, every operation decoded from a word written out from the
spec's encoding, one step of each family against the vectors of 95_test_vectors, and for each obligation with hypotheses
a state and operands that meet them. -/

namespace Sys2Proof.Tests

open Sys2Proof Sys2Proof.Machine Sys2Proof.Stated

/-! Well-formedness: each check refuses a term. -/

/-- R73, R106: RAM ends at RAM_SIZE; open bus is neither RAM nor a window. -/
theorem test_wf_addresses :
    Instr.wf (.ramR8 0x400000) = false ∧ Instr.wf (.ramW8 0x400000 0) = false ∧
    Instr.wf (.openR8 0x3FFFFF) = false ∧ Instr.wf (.openW8 0xFF8925 0) = false ∧
    Instr.wf (.openR8 0xFFFA25) = false ∧ Instr.wf (.openW8 0xFF88FF 0) = false ∧
    Instr.wf (.openR8 0xFFFA26) = true ∧ Instr.wf (.ramW8 0x3FFFFF 0) = true := by decide

/-- R35, R30: an unused DMA-PCM offset is neither a named one nor past the window; a timer catch-all offset is even and
in the window. -/
theorem test_wf_offsets :
    Instr.wf (.dmaUnusedR8 0x01) = false ∧ Instr.wf (.dmaUnusedW8 0x26 0) = false ∧
    Instr.wf (.dmaUnusedR8 0x26) = false ∧ Instr.wf (.dmaUnusedW8 0x24 0) = false ∧
    Instr.wf (.mfpEvenR8 0x01) = false ∧ Instr.wf (.mfpEvenW8 0x26 0) = false ∧
    Instr.wf (.mfpEvenR8 0x26) = false ∧ Instr.wf (.mfpEvenW8 0x25 0) = false := by decide

/-- R7: HOST_RATE is at least 1 and the chip clock at least 8. -/
theorem test_wf_resets :
    Instr.wf (.sysReset 0) = false ∧ Instr.wf (.psgReset 0 8) = false ∧ Instr.wf (.psgReset 1 7) = false ∧
    Instr.wf (.mfpReset 0) = false ∧ Instr.wf (.dmaReset 0) = false ∧ Instr.wf (.psgReset 1 8) = true := by decide

/-! Decoding. -/

/-- R100, R106, V-ENC-7, V-ENC-8: memory and open bus; a halfword key is no operation. -/
theorem test_decode_memory :
    decode ⟨.bus8, 0x03FFFFF, 0, 0, 0⟩ = .ok (.ramR8 0x3FFFFF) ∧
    decode ⟨.bus8, 0x23FFFFF, 0xAB, 0, 0⟩ = .ok (.ramW8 0x3FFFFF 0xAB) ∧
    decode ⟨.bus8, 0x0FF8926, 0, 0, 0⟩ = .ok (.openR8 0xFF8926) ∧
    decode ⟨.bus8, 0x2500000, 0xAB, 0, 0⟩ = .ok (.openW8 0x500000 0xAB) ∧
    decode ⟨.bus8, 0x3FF8800, 0xAB, 0, 0⟩ = .error .halfwordKey := by decide

/-- R211, R212, V-ENC-1, V-ENC-2, V-ENC-3: the sound chip's ports, their mirrors and their odd shadow. -/
theorem test_decode_ports :
    decode ⟨.bus8, 0x2FF8800, 0x07, 0, 0⟩ = .ok (.psgSelW8 0 0x07) ∧
    decode ⟨.bus8, 0x0FF8804, 0, 0, 0⟩ = .ok (.psgSelR8 1) ∧
    decode ⟨.bus8, 0x2FF8806, 0x3E, 0, 0⟩ = .ok (.psgDataW8 1 0x3E) ∧
    decode ⟨.bus8, 0x0FF88FE, 0, 0, 0⟩ = .ok (.psgDataR8 63) ∧
    decode ⟨.bus8, 0x2FF8801, 0x55, 0, 0⟩ = .ok (.psgOddW8 0 0x55) ∧
    decode ⟨.bus8, 0x0FF8803, 0, 0, 0⟩ = .ok (.psgOddR8 1) := by decide

/-- R35: the registers of the DMA-PCM window at their offsets. -/
theorem test_decode_dma_a :
    decode ⟨.bus8, 0x0FF8901, 0, 0, 0⟩ = .ok .dmaCtrlR8 ∧
    decode ⟨.bus8, 0x2FF8901, 0x5A, 0, 0⟩ = .ok (.dmaCtrlW8 0x5A) ∧
    decode ⟨.bus8, 0x0FF8903, 0, 0, 0⟩ = .ok .dmaStartHiR8 ∧
    decode ⟨.bus8, 0x2FF8903, 0x5A, 0, 0⟩ = .ok (.dmaStartHiW8 0x5A) ∧
    decode ⟨.bus8, 0x0FF8905, 0, 0, 0⟩ = .ok .dmaStartMidR8 ∧
    decode ⟨.bus8, 0x2FF8905, 0x5A, 0, 0⟩ = .ok (.dmaStartMidW8 0x5A) ∧
    decode ⟨.bus8, 0x0FF8907, 0, 0, 0⟩ = .ok .dmaStartLoR8 ∧
    decode ⟨.bus8, 0x2FF8907, 0x5A, 0, 0⟩ = .ok (.dmaStartLoW8 0x5A) ∧
    decode ⟨.bus8, 0x0FF8909, 0, 0, 0⟩ = .ok .dmaCntHiR8 ∧
    decode ⟨.bus8, 0x2FF8909, 0x5A, 0, 0⟩ = .ok (.dmaCntHiW8 0x5A) ∧
    decode ⟨.bus8, 0x0FF890B, 0, 0, 0⟩ = .ok .dmaCntMidR8 ∧
    decode ⟨.bus8, 0x2FF890B, 0x5A, 0, 0⟩ = .ok (.dmaCntMidW8 0x5A) ∧
    decode ⟨.bus8, 0x0FF890D, 0, 0, 0⟩ = .ok .dmaCntLoR8 ∧
    decode ⟨.bus8, 0x2FF890D, 0x5A, 0, 0⟩ = .ok (.dmaCntLoW8 0x5A) ∧
    decode ⟨.bus8, 0x0FF890F, 0, 0, 0⟩ = .ok .dmaEndHiR8 ∧
    decode ⟨.bus8, 0x2FF890F, 0x5A, 0, 0⟩ = .ok (.dmaEndHiW8 0x5A) := by decide

/-- R35: the registers of the DMA-PCM window at their offsets. -/
theorem test_decode_dma_b :
    decode ⟨.bus8, 0x0FF8911, 0, 0, 0⟩ = .ok .dmaEndMidR8 ∧
    decode ⟨.bus8, 0x2FF8911, 0x5A, 0, 0⟩ = .ok (.dmaEndMidW8 0x5A) ∧
    decode ⟨.bus8, 0x0FF8913, 0, 0, 0⟩ = .ok .dmaEndLoR8 ∧
    decode ⟨.bus8, 0x2FF8913, 0x5A, 0, 0⟩ = .ok (.dmaEndLoW8 0x5A) ∧
    decode ⟨.bus8, 0x0FF8921, 0, 0, 0⟩ = .ok .dmaModeR8 ∧
    decode ⟨.bus8, 0x2FF8921, 0x5A, 0, 0⟩ = .ok (.dmaModeW8 0x5A) ∧
    decode ⟨.bus8, 0x0FF8922, 0, 0, 0⟩ = .ok .dmaMwDataHiR8 ∧
    decode ⟨.bus8, 0x2FF8922, 0x5A, 0, 0⟩ = .ok (.dmaMwDataHiW8 0x5A) ∧
    decode ⟨.bus8, 0x0FF8923, 0, 0, 0⟩ = .ok .dmaMwDataLoR8 ∧
    decode ⟨.bus8, 0x2FF8923, 0x5A, 0, 0⟩ = .ok (.dmaMwDataLoW8 0x5A) ∧
    decode ⟨.bus8, 0x0FF8924, 0, 0, 0⟩ = .ok .dmaMwMaskHiR8 ∧
    decode ⟨.bus8, 0x2FF8924, 0x5A, 0, 0⟩ = .ok (.dmaMwMaskHiW8 0x5A) ∧
    decode ⟨.bus8, 0x0FF8925, 0, 0, 0⟩ = .ok .dmaMwMaskLoR8 ∧
    decode ⟨.bus8, 0x2FF8925, 0x5A, 0, 0⟩ = .ok (.dmaMwMaskLoW8 0x5A) := by decide

/-- R482, R483, V-ENC-6: offsets of the DMA-PCM window with no register. -/
theorem test_decode_dma_unused :
    decode ⟨.bus8, 0x0FF8915, 0, 0, 0⟩ = .ok (.dmaUnusedR8 0x15) ∧
    decode ⟨.bus8, 0x2FF8920, 0x5A, 0, 0⟩ = .ok (.dmaUnusedW8 0x20 0x5A) := by decide

/-- R30: the registers of the timer window at their offsets. -/
theorem test_decode_mfp_a :
    decode ⟨.bus8, 0x0FFFA01, 0, 0, 0⟩ = .ok .mfpGpipR8 ∧
    decode ⟨.bus8, 0x2FFFA01, 0x5A, 0, 0⟩ = .ok (.mfpGpipW8 0x5A) ∧
    decode ⟨.bus8, 0x0FFFA03, 0, 0, 0⟩ = .ok .mfpAerR8 ∧
    decode ⟨.bus8, 0x2FFFA03, 0x5A, 0, 0⟩ = .ok (.mfpAerW8 0x5A) ∧
    decode ⟨.bus8, 0x0FFFA05, 0, 0, 0⟩ = .ok .mfpDdrR8 ∧
    decode ⟨.bus8, 0x2FFFA05, 0x5A, 0, 0⟩ = .ok (.mfpDdrW8 0x5A) ∧
    decode ⟨.bus8, 0x0FFFA07, 0, 0, 0⟩ = .ok .mfpIeraR8 ∧
    decode ⟨.bus8, 0x2FFFA07, 0x5A, 0, 0⟩ = .ok (.mfpIeraW8 0x5A) ∧
    decode ⟨.bus8, 0x0FFFA09, 0, 0, 0⟩ = .ok .mfpIerbR8 ∧
    decode ⟨.bus8, 0x2FFFA09, 0x5A, 0, 0⟩ = .ok (.mfpIerbW8 0x5A) ∧
    decode ⟨.bus8, 0x0FFFA0B, 0, 0, 0⟩ = .ok .mfpIpraR8 ∧
    decode ⟨.bus8, 0x2FFFA0B, 0x5A, 0, 0⟩ = .ok (.mfpIpraW8 0x5A) ∧
    decode ⟨.bus8, 0x0FFFA0D, 0, 0, 0⟩ = .ok .mfpIprbR8 ∧
    decode ⟨.bus8, 0x2FFFA0D, 0x5A, 0, 0⟩ = .ok (.mfpIprbW8 0x5A) := by decide

/-- R30: the registers of the timer window at their offsets. -/
theorem test_decode_mfp_b :
    decode ⟨.bus8, 0x0FFFA0F, 0, 0, 0⟩ = .ok .mfpIsraR8 ∧
    decode ⟨.bus8, 0x2FFFA0F, 0x5A, 0, 0⟩ = .ok (.mfpIsraW8 0x5A) ∧
    decode ⟨.bus8, 0x0FFFA11, 0, 0, 0⟩ = .ok .mfpIsrbR8 ∧
    decode ⟨.bus8, 0x2FFFA11, 0x5A, 0, 0⟩ = .ok (.mfpIsrbW8 0x5A) ∧
    decode ⟨.bus8, 0x0FFFA13, 0, 0, 0⟩ = .ok .mfpImraR8 ∧
    decode ⟨.bus8, 0x2FFFA13, 0x5A, 0, 0⟩ = .ok (.mfpImraW8 0x5A) ∧
    decode ⟨.bus8, 0x0FFFA15, 0, 0, 0⟩ = .ok .mfpImrbR8 ∧
    decode ⟨.bus8, 0x2FFFA15, 0x5A, 0, 0⟩ = .ok (.mfpImrbW8 0x5A) ∧
    decode ⟨.bus8, 0x0FFFA17, 0, 0, 0⟩ = .ok .mfpVrR8 ∧
    decode ⟨.bus8, 0x2FFFA17, 0x5A, 0, 0⟩ = .ok (.mfpVrW8 0x5A) ∧
    decode ⟨.bus8, 0x0FFFA19, 0, 0, 0⟩ = .ok .mfpTacrR8 ∧
    decode ⟨.bus8, 0x2FFFA19, 0x5A, 0, 0⟩ = .ok (.mfpTacrW8 0x5A) ∧
    decode ⟨.bus8, 0x0FFFA1B, 0, 0, 0⟩ = .ok .mfpTbcrR8 ∧
    decode ⟨.bus8, 0x2FFFA1B, 0x5A, 0, 0⟩ = .ok (.mfpTbcrW8 0x5A) := by decide

/-- R30: the registers of the timer window at their offsets. -/
theorem test_decode_mfp_c :
    decode ⟨.bus8, 0x0FFFA1D, 0, 0, 0⟩ = .ok .mfpTcdcrR8 ∧
    decode ⟨.bus8, 0x2FFFA1D, 0x5A, 0, 0⟩ = .ok (.mfpTcdcrW8 0x5A) ∧
    decode ⟨.bus8, 0x0FFFA1F, 0, 0, 0⟩ = .ok .mfpTadrR8 ∧
    decode ⟨.bus8, 0x2FFFA1F, 0x5A, 0, 0⟩ = .ok (.mfpTadrW8 0x5A) ∧
    decode ⟨.bus8, 0x0FFFA21, 0, 0, 0⟩ = .ok .mfpTbdrR8 ∧
    decode ⟨.bus8, 0x2FFFA21, 0x5A, 0, 0⟩ = .ok (.mfpTbdrW8 0x5A) ∧
    decode ⟨.bus8, 0x0FFFA23, 0, 0, 0⟩ = .ok .mfpTcdrR8 ∧
    decode ⟨.bus8, 0x2FFFA23, 0x5A, 0, 0⟩ = .ok (.mfpTcdrW8 0x5A) ∧
    decode ⟨.bus8, 0x0FFFA25, 0, 0, 0⟩ = .ok .mfpTddrR8 ∧
    decode ⟨.bus8, 0x2FFFA25, 0x5A, 0, 0⟩ = .ok (.mfpTddrW8 0x5A) := by decide

/-- R390, R391, V-ENC-5: the even offsets of the timer window. -/
theorem test_decode_mfp_even :
    decode ⟨.bus8, 0x0FFFA00, 0, 0, 0⟩ = .ok (.mfpEvenR8 0x00) ∧
    decode ⟨.bus8, 0x2FFFA1E, 0x5A, 0, 0⟩ = .ok (.mfpEvenW8 0x1E 0x5A) := by decide

/-- R102: a PSGREG key is the selected register's number. -/
theorem test_decode_psgreg :
    decode ⟨.psgreg, 0b0000, 0x5A, 0, 0⟩ = .ok (.psgWrR0 0x5A) ∧
    decode ⟨.psgreg, 0b0001, 0x5A, 0, 0⟩ = .ok (.psgWrR1 0x5A) ∧
    decode ⟨.psgreg, 0b0010, 0x5A, 0, 0⟩ = .ok (.psgWrR2 0x5A) ∧
    decode ⟨.psgreg, 0b0011, 0x5A, 0, 0⟩ = .ok (.psgWrR3 0x5A) ∧
    decode ⟨.psgreg, 0b0100, 0x5A, 0, 0⟩ = .ok (.psgWrR4 0x5A) ∧
    decode ⟨.psgreg, 0b0101, 0x5A, 0, 0⟩ = .ok (.psgWrR5 0x5A) ∧
    decode ⟨.psgreg, 0b0110, 0x5A, 0, 0⟩ = .ok (.psgWrR6 0x5A) ∧
    decode ⟨.psgreg, 0b0111, 0x5A, 0, 0⟩ = .ok (.psgWrR7 0x5A) ∧
    decode ⟨.psgreg, 0b1000, 0x5A, 0, 0⟩ = .ok (.psgWrR8 0x5A) ∧
    decode ⟨.psgreg, 0b1001, 0x5A, 0, 0⟩ = .ok (.psgWrR9 0x5A) ∧
    decode ⟨.psgreg, 0b1010, 0x5A, 0, 0⟩ = .ok (.psgWrR10 0x5A) ∧
    decode ⟨.psgreg, 0b1011, 0x5A, 0, 0⟩ = .ok (.psgWrR11 0x5A) ∧
    decode ⟨.psgreg, 0b1100, 0x5A, 0, 0⟩ = .ok (.psgWrR12 0x5A) ∧
    decode ⟨.psgreg, 0b1101, 0x5A, 0, 0⟩ = .ok (.psgWrR13 0x5A) ∧
    decode ⟨.psgreg, 0b1110, 0x5A, 0, 0⟩ = .ok (.psgWrR14 0x5A) ∧
    decode ⟨.psgreg, 0b1111, 0x5A, 0, 0⟩ = .ok (.psgWrR15 0x5A) := by decide

/-- R103, V-ENC-10, V-ENC-11: the internal operations; the resets' operands as log 2 biases them. -/
theorem test_decode_internal :
    decode ⟨.internal, 0b0000, 0, 44099, 0⟩ = .ok (.sysReset 44100) ∧
    decode ⟨.internal, 0b0001, 0, 0, 0⟩ = .ok .sysSample ∧
    decode ⟨.internal, 0b0010, 0, 44099, 1999992⟩ = .ok (.psgReset 44100 2000000) ∧
    decode ⟨.internal, 0b0011, 0, 0, 0⟩ = .ok .psgTick ∧
    decode ⟨.internal, 0b0100, 0, 0, 0⟩ = .ok .psgSample ∧
    decode ⟨.internal, 0b0101, 0, 44099, 0⟩ = .ok (.mfpReset 44100) ∧
    decode ⟨.internal, 0b0110000, 0, 0, 0⟩ = .ok (.mfpTick .A) ∧
    decode ⟨.internal, 0b0110001, 0, 0, 0⟩ = .ok (.mfpTick .B) ∧
    decode ⟨.internal, 0b0110010, 0, 0, 0⟩ = .ok (.mfpTick .C) ∧
    decode ⟨.internal, 0b0110011, 0, 0, 0⟩ = .ok (.mfpTick .D) ∧
    decode ⟨.internal, 0b0110100, 0, 0, 0⟩ = .ok (.mfpTick .GPI7) ∧
    decode ⟨.internal, 0b0111000, 0, 0, 0⟩ = .ok (.mfpSignal .A) ∧
    decode ⟨.internal, 0b0111001, 0, 0, 0⟩ = .ok (.mfpSignal .B) ∧
    decode ⟨.internal, 0b0111010, 0, 0, 0⟩ = .ok (.mfpSignal .C) ∧
    decode ⟨.internal, 0b0111011, 0, 0, 0⟩ = .ok (.mfpSignal .D) ∧
    decode ⟨.internal, 0b0111100, 0, 0, 0⟩ = .ok (.mfpSignal .GPI7) ∧
    decode ⟨.internal, 0b1000, 0, 44099, 0⟩ = .ok (.dmaReset 44100) ∧
    decode ⟨.internal, 0b1001, 0, 0, 0⟩ = .ok .dmaSample ∧
    decode ⟨.internal, 0b1010, 0, 0, 0⟩ = .error .reservedOp ∧
    decode ⟨.internal, 0b0110101, 0, 0, 0⟩ = .error .reservedTimer := by decide
/-- The host's words: a byte key with zero data, an internal code, and a code that is only a register's (log 3). -/
theorem test_table_words :
    decodeTableWord 32 0x2FFFA1F = some (.mfpTadrW8 0) ∧ decodeTableWord 32 0x0FF88FE = some (.psgDataR8 63) ∧
    decodeTableWord 32 0x3000000 = none ∧ decodeTableWord 8 0x33 = some (.mfpTick .D) ∧
    decodeTableWord 8 0x3 = some .psgTick ∧ decodeTableWord 8 0xD = some (.psgWrR13 0) := by decide

/-! Behaviour, one step at a time. -/

/-- The state a step answers, if it answers one. -/
def stateOf : Host.Outcome State Fault Refusal → Option State
  | .next t => some t
  | _ => none

/-- The result a step hands over, if it answers a next state. -/
def resultOf (o : Host.Outcome State Fault Refusal) : Option Result := (stateOf o).map State.out

/-- The reset state with another sound chip. -/
def withPsg (p : Psg) : State := { State.reset with psg := p }

/-- The reset state with another timer controller. -/
def withMfp (m : Mfp) : State := { State.reset with mfp := m }

/-- The reset state with another DMA-PCM channel. -/
def withDma (d : Dma) : State := { State.reset with dma := d }

/-- The reset state with requests waiting. -/
def asked (q : List Request) : State := { State.reset with env := ⟨q, [], [], [], []⟩ }

/-- The sound chip with registers written. -/
def regs (xs : List (Fin 16 × Byte)) : Psg := xs.foldl (fun p x => p.store x.1 x.2) (Psg.fresh 44100 2000000)

/-- V-BUS-2: a halfword over the end of RAM; V-BUS-4: a halfword read over the end of the address space. -/
theorem test_halfwords_at_the_edges :
    (stateOf (step (asked [.pseudo (.w16 0x3FFFFF 0xABCD)]))).map (fun t => t.ram) = some [(0x3FFFFF, 0xAB)] ∧
    resultOf (step { asked [.pseudo (.r16 0x3FFFFF)] with ram := [(0x3FFFFF, 0xAB)] }) = some (.half 0xABFF) ∧
    resultOf (step (asked [.pseudo (.r16 0xFFFFFF)])) = some (.half 0xFF00) := by decide

/-- V-BUS-1 (RAM_W8, RAM_R8): a byte stored and read back; writing what an unlisted address reads as unlists it. -/
theorem test_ram_bytes :
    (stateOf (exec (.ramW8 0x001000 0x12) State.reset)).map (fun t => t.ram) = some [(0x1000, 0x12)] ∧
    resultOf (exec (.ramR8 0x001001) { State.reset with ram := [(0x1000, 0x12), (0x1001, 0x34)] }) =
      some (.byte 0x34) ∧
    (stateOf (exec (.ramW8 0x001000 0) { State.reset with ram := [(0x1000, 0x12)] })).map (fun t => t.ram) = some [] := by
  decide

/-- V-BUS-3 (OPEN_R8), V-BUS-9: open bus, and a memory read beyond RAM. -/
theorem test_open_bus :
    resultOf (exec (.openR8 0x500000) State.reset) = some (.byte 0xFF) ∧ memRead [] 0x400000 = 0xFF ∧
    resultOf (step (asked [.pseudo (.r16 0xFF8A00)])) = some (.half 0xFFFF) := by decide

/-- V-BUS-5, V-BUS-7, V-BUS-8: halfwords over a port and its shadow, over TADR, and over MODE. -/
theorem test_halfwords_on_devices :
    resultOf (step { asked [.pseudo (.r16 0xFF8802)] with psg := { regs [(7, 0xFF)] with sel := 7 } }) =
      some (.half 0xFFFF) ∧
    ((stateOf (step (asked [.pseudo (.w16 0xFFFA1E 0x0064)]))).map fun t => t.mfp.timers.a) =
      some ⟨0x64, 100, 0, false⟩ ∧
    ((stateOf (step (asked [.pseudo (.w16 0xFF8920 0x0083)]))).map fun t => t.dma.mode) = some 0x83 ∧
    resultOf (step { asked [.pseudo (.r16 0xFF8920)] with dma := { Dma.fresh 44100 with mode := 0x83 } }) =
      some (.half 0x0083) := by decide

/-- R109: PSGW selects, then writes. -/
theorem test_psgw :
    ((stateOf (step (asked [.pseudo (.psgw 8 0xFF)]))).map fun t => (t.psg.sel, t.psg.reg 8)) = some (8, 0x1F) := by
  decide

/-- V-BUS-6, V-PSG-1 (PSG_SEL_W8): a mirror of the select port; values above 15 are taken mod 16. -/
theorem test_select :
    ((stateOf (exec (.psgSelW8 1 0x0D) State.reset)).map fun t => t.psg.sel) = some 13 ∧
    ((stateOf (exec (.psgSelW8 0 0x1D) State.reset)).map fun t => t.psg.sel) = some 13 := by decide

/-- V-PSG-2 (PSG_ODD_R8, PSG_ODD_W8, PSG_SEL_R8, PSG_DATA_R8): the odd shadow reads the port and ignores writes. -/
theorem test_odd_shadow :
    resultOf (exec (.psgOddR8 0) (withPsg { regs [(7, 0x3F)] with sel := 7 })) = some (.byte 0x3F) ∧
    resultOf (exec (.psgSelR8 0) (withPsg { regs [(7, 0x3F)] with sel := 7 })) = some (.byte 0x3F) ∧
    resultOf (exec (.psgDataR8 5) (withPsg { regs [(7, 0x3F)] with sel := 7 })) = some (.byte 0x3F) ∧
    stateOf (exec (.psgOddW8 1 0x55) State.reset) = some State.reset := by decide

/-- V-PSG-1 (PSG_DATA_W8, PSG_WR_R0 to PSG_WR_R15): each register written 0xFF holds its mask. -/
theorem test_register_masks : ∀ n : Fin 16,
    ((stateOf (exec (.psgDataW8 0 0xFF) (withPsg { regs [] with sel := BitVec.ofFin n }))).map fun t => t.psg.reg n) =
      some ([0xFF, 0x0F, 0xFF, 0x0F, 0xFF, 0x0F, 0x1F, 0xFF, 0x1F, 0x1F, 0x1F, 0xFF, 0xFF, 0x0F, 0xFF, 0xFF].getD
        n.val 0) ∧
    ((stateOf (exec (registerWrite n 0xFF) State.reset)).map fun t => t.psg.reg n) =
      some ([0xFF, 0x0F, 0xFF, 0x0F, 0xFF, 0x0F, 0x1F, 0xFF, 0x1F, 0x1F, 0x1F, 0xFF, 0xFF, 0x0F, 0xFF, 0xFF].getD
        n.val 0) := by decide

/-- V-PSG-12 (PSG_WR_R13): the same shape written again restarts the envelope. -/
theorem test_shape_write_restarts :
    ((stateOf (exec (.psgWrR13 0x0E) (withPsg { regs [(11, 1), (13, 0x0E)] with envPos := 40, envCnt := 1 }))).map
      fun t => (t.psg.envPos, t.psg.envCnt)) = some (0, 0) := by decide

/-- V-PSG-3 (PSG_TICK): the first tick raises every edge, the second clears them. -/
theorem test_tick_edges :
    resultOf (exec .psgTick State.reset) = some (.edges 0x7FFF) ∧
    resultOf (exec .psgTick (withPsg (Psg.fresh 44100 2000000).tick)) = some (.edges 0) := by decide

/-- V-PSG-6: a period lowered below the counter toggles at the next tick. V-PSG-4: period 2 holds at its first tick. -/
theorem test_tone_step :
    Tone.step 3 ⟨5, false⟩ = ⟨0, true⟩ ∧ Tone.step 2 ⟨0, false⟩ = ⟨1, false⟩ ∧ Tone.step 2 ⟨1, false⟩ = ⟨0, true⟩ ∧
    Tone.step 0 ⟨0, true⟩ = ⟨0, false⟩ := by decide

/-- V-PSG-7: the shift register at some of the listed values. -/
theorem test_lfsr :
    lfsrStep 1 = 0x10000 ∧ lfsrStep 0x00010 = 0x00008 ∧ lfsrStep 0x00008 = 0x10004 ∧ lfsrStep 0x10004 = 0x08002 ∧
    lfsrStep 0x08002 = 0x04001 ∧ lfsrStep 0x04001 = 0x12000 := by decide

/-- V-PSG-8: with period 2 the noise advances on the odd ticks only: not at tick 1, at tick 3. -/
theorem test_noise_half_rate :
    ((regs [(6, 2)]).tick.noiseCnt, (regs [(6, 2)]).tick.lfsr) = (1, 1) ∧
    (regs [(6, 2)]).tick.tick.lfsr = 1 ∧ (regs [(6, 2)]).tick.tick.tick.lfsr = 0x10000 := by decide

/-- V-PSG-10: envelope levels of the twelve listed positions, for shapes 0, 4, 10, 11 and 14. -/
theorem test_envelope_levels :
    [0, 1, 30, 31, 32, 33, 62, 63, 64, 65, 94, 95].map (envLevel 0) = [31, 30, 1, 0, 0, 0, 0, 0, 0, 0, 0, 0] ∧
    [0, 1, 30, 31, 32, 33, 62, 63, 64, 65, 94, 95].map (envLevel 4) = [0, 1, 30, 31, 0, 0, 0, 0, 0, 0, 0, 0] ∧
    [0, 1, 30, 31, 32, 33, 62, 63, 64, 65, 94, 95].map (envLevel 10) = [31, 30, 1, 0, 0, 1, 30, 31, 31, 30, 1, 0] ∧
    [0, 1, 30, 31, 32, 33, 62, 63, 64, 65, 94, 95].map (envLevel 11) =
      [31, 30, 1, 0, 31, 31, 31, 31, 31, 31, 31, 31] ∧
    [0, 1, 30, 31, 32, 33, 62, 63, 64, 65, 94, 95].map (envLevel 14) =
      [0, 1, 30, 31, 31, 30, 1, 0, 0, 1, 30, 31] := by decide

/-- V-PSG-11: with period 2 the first tick holds the position and the second advances it; 95 wraps to 32. -/
theorem test_envelope_step :
    (regs [(11, 2)]).tick.envPos = 0 ∧ (regs [(11, 2)]).tick.tick.envPos = 1 ∧
    ({ regs [(11, 1)] with envPos := 95 } : Psg).tick.envPos = 32 := by decide

/-- V-PSG-13 (PSG_SAMPLE): the first sample runs 5 chip ticks and leaves 250000 - 5 * 44100. -/
theorem test_resampling :
    (State.reset.psg.resample).resAcc = 29500 ∧ (State.reset.psg.resample).tones.a.edge = true := by decide

/-- The sound chip of V-PSG-14: voice A with a level register, edge, noise bit and mixer byte, shape 4. -/
def gateState (level mixer : Byte) (edge noise : Bool) (pos : Nat) : Psg :=
  { regs [(8, level), (7, mixer), (13, 4)] with tones := ⟨⟨0, edge⟩, ⟨0, false⟩, ⟨0, false⟩⟩, noiseBit := noise, envPos := pos }

/-- V-PSG-14: the gated index of voice A. -/
theorem test_gates :
    (gateState 0x0F 0x08 true false 0).gatedIndex .A = 31 ∧ (gateState 0x0F 0x08 false false 0).gatedIndex .A = 0 ∧
    (gateState 0x0F 0x09 false false 0).gatedIndex .A = 31 ∧ (gateState 0x0F 0x00 true false 0).gatedIndex .A = 0 ∧
    (gateState 0x0F 0x00 true true 0).gatedIndex .A = 31 ∧ (gateState 0x00 0x09 true true 0).gatedIndex .A = 1 ∧
    (gateState 0x07 0x09 true true 0).gatedIndex .A = 15 ∧ (gateState 0x10 0x09 true true 17).gatedIndex .A = 17 ∧
    (gateState 0x1F 0x09 true true 0).gatedIndex .A = 0 := by decide

/-- V-SYS-1 (PSG_SAMPLE): the first sample after reset is 0, whatever VOL_TABLE and DC_LEN are. -/
theorem test_first_sample : resultOf (exec .psgSample State.reset) = some (.sample 0) := by
  have h : State.reset.psg.resample.rawSum = 0 := by decide
  have g : State.reset.psg.resample.dcSum = 0 := by decide
  simp [exec, execPsgSample, resultOf, stateOf, State.give, Psg.sample, Psg.dcFilter, h, g]

/-- V-MFP-1: what some offsets read right after reset, and the masks of the control registers. -/
theorem test_timer_registers :
    resultOf (exec .mfpTadrR8 State.reset) = some (.byte 0x00) ∧
    ((stateOf (exec (.mfpTacrW8 0xF7) State.reset)).map fun t => t.mfp.tacr) = some 0x07 ∧
    ((stateOf (exec (.mfpTcdcrW8 0xFF) State.reset)).map fun t => t.mfp.tcdcr) = some 0x77 ∧
    stateOf (exec (.mfpIpraW8 0xFF) State.reset) = some State.reset ∧
    resultOf (exec (.mfpEvenR8 0x06) State.reset) = some (.byte 0xFF) ∧
    ((stateOf (exec (.mfpVrW8 0x48) State.reset)).map fun t => t.mfp.vr) = some 0x48 := by decide

/-- A timer controller with Timer A set. -/
def timerA (tacr iera imra : Byte) (a : Timer) : Mfp :=
  { Mfp.fresh 44100 with tacr := tacr, iera := iera, imra := imra, timers := { (Mfp.fresh 44100).timers with a := a } }

/-- V-MFP-2 (MFP_IERA_W8, MFP_TICK): enabling restarts the count, a second enable write does not, and one tick of
divisor 4 counts 13 times. -/
theorem test_timer_restart :
    ((stateOf (exec (.mfpIeraW8 0x20) (withMfp (timerA 1 0 0 ⟨16, 9, 5, false⟩)))).map fun t => t.mfp.timers.a) =
      some ⟨16, 16, 0, false⟩ ∧
    ((stateOf (exec (.mfpIeraW8 0x20) (withMfp (timerA 1 0x20 0 ⟨16, 3, 164400, false⟩)))).map
      fun t => t.mfp.timers.a) = some ⟨16, 3, 164400, false⟩ ∧
    ((stateOf (exec (.mfpTick .A) (withMfp (timerA 1 0x20 0 ⟨16, 16, 0, false⟩)))).map fun t => t.mfp.timers.a) =
      some ⟨16, 3, 164400, false⟩ := by decide

/-- V-MFP-3 (first row): with count 1 and divisor 200 the third tick does not fire and the fourth does. -/
theorem test_timer_fires :
    resultOf (exec (.mfpTick .A) (withMfp (timerA 7 0x20 0x20 ⟨1, 1, 2 * 2457600, false⟩))) = some (.fired false) ∧
    resultOf (exec (.mfpTick .A) (withMfp (timerA 7 0x20 0x20 ⟨1, 1, 3 * 2457600, false⟩))) = some (.fired true) := by
  decide

/-- V-MFP-4 (MFP_TADR_W8): a data write while counting changes the reload value only. -/
theorem test_timer_data_write :
    ((stateOf (exec (.mfpTadrW8 2) (withMfp (timerA 7 0x20 0x20 ⟨5, 5, 0, false⟩)))).map fun t => t.mfp.timers.a) =
      some ⟨2, 5, 0, false⟩ := by decide

/-- V-MFP-5: a masked-out timer counts and reports nothing. -/
theorem test_timer_masked :
    resultOf (exec (.mfpTick .D) (withMfp { Mfp.fresh 44100 with
      ierb := 0x10, tcdcr := 1, timers := { (Mfp.fresh 44100).timers with d := ⟨1, 1, 0, false⟩ } })) =
        some (.fired false) ∧
    resultOf (exec (.mfpTick .D) (withMfp { Mfp.fresh 44100 with
      ierb := 0x10, imrb := 0x10, tcdcr := 1, timers := { (Mfp.fresh 44100).timers with d := ⟨1, 1, 0, false⟩ } })) =
        some (.fired true) := by decide

/-- V-MFP-6, V-MFP-7, V-MFP-8 (MFP_SIGNAL): event mode, an event dropped while disabled, and GPI7. -/
theorem test_timer_events :
    resultOf (exec (.mfpTick .A) (withMfp (timerA 8 0x20 0x20 ⟨2, 1, 0, true⟩))) = some (.fired true) ∧
    ((stateOf (exec (.mfpTick .A) (withMfp (timerA 8 0 0x20 ⟨1, 1, 0, true⟩)))).map
      fun t => (t.out, t.mfp.timers.a)) = some (.fired false, ⟨1, 1, 0, false⟩) ∧
    ((stateOf (exec (.mfpSignal .GPI7) State.reset)).map fun t => t.mfp.timers.gpi7) = some ⟨1, 1, 0, true⟩ ∧
    resultOf (exec (.mfpTick .GPI7) (withMfp { Mfp.fresh 44100 with
      iera := 0x80, imra := 0x80
      timers := { (Mfp.fresh 44100).timers with gpi7 := ⟨1, 1, 0, true⟩ } })) = some (.fired true) := by decide

/-- V-DMA-1: the masks of CTRL and MODE, the count read-only, an unused offset. -/
theorem test_dma_registers :
    ((stateOf (exec (.dmaCtrlW8 0xFF) State.reset)).map fun t => t.dma.ctrl) = some 0x03 ∧
    ((stateOf (exec (.dmaModeW8 0xFF) State.reset)).map fun t => t.dma.mode) = some 0x83 ∧
    stateOf (exec (.dmaCntHiW8 0x20) State.reset) = some State.reset ∧
    resultOf (exec .dmaCntHiR8 (withDma { Dma.fresh 44100 with cur := 0x123456 })) = some (.byte 0x12) ∧
    resultOf (exec .dmaCntLoR8 (withDma { Dma.fresh 44100 with cur := 0x123456 })) = some (.byte 0x56) ∧
    resultOf (exec (.dmaUnusedR8 0x15) State.reset) = some (.byte 0x00) := by decide

/-- The channel of the V-DMA vectors while it plays, and its four bytes. -/
def playing (ctrl mode : Byte) (cur : BitVec 24) (acc : Nat) : State :=
  { withDma { Dma.fresh 44100 with
      ctrl := ctrl, mode := mode, startHi := 1, endHi := 1, endLo := 4, cur := cur, endp := 0x010004, acc := acc } with
    ram := [(0x10000, 0x10), (0x10001, 0x20), (0x10002, 0x30), (0x10003, 0x40)] }

/-- V-DMA-2 (DMA_CTRL_W8, DMA_SAMPLE): the play write fetches the pointers; sample 2 plays the first byte. -/
theorem test_dma_sample :
    ((stateOf (exec (.dmaCtrlW8 0x01) (playing 0 0x82 0 7))).map fun t => (t.dma.ctrl, t.dma.cur, t.dma.acc)) =
      some (0x01, 0x010000, 0) ∧
    ((stateOf (exec .dmaSample (playing 1 0x82 0x010000 25033))).map fun t => (t.out, t.dma.cur, t.dma.acc)) =
      some (.sample 4096, 0x010001, 5966) := by decide

/-- V-DMA-2, V-DMA-3: the buffer end of a one-shot stream (sample 8), and of a loop. -/
theorem test_dma_buffer_end :
    ((stateOf (exec .dmaSample (playing 1 0x82 0x010003 42931))).map fun t => (t.out, t.dma.ctrl, t.dma.cur)) =
      some (.sample 0, 0x00, 0x010000) ∧
    ((stateOf (exec .dmaSample (playing 1 0x82 0x010003 42931))).map
      fun t => (t.mfp.timers.a.event, t.mfp.timers.gpi7.event, t.mfp.timers.b.event)) = some (true, true, false) ∧
    ((stateOf (exec .dmaSample (playing 3 0x82 0x010003 42931))).map fun t => (t.out, t.dma.ctrl, t.dma.cur)) =
      some (.sample 16384, 0x03, 0x010000) := by decide

/-- V-DMA-5, V-DMA-6: a stereo frame, and the mean of a pair of negative sum. -/
theorem test_dma_stereo_and_pairs :
    ((stateOf (exec .dmaSample (playing 1 0x02 0x010000 25033))).map fun t => (t.out, t.dma.cur)) =
      some (.sample 12288, 0x010002) ∧
    ((({ Dma.fresh 44100 with mode := 0x83, parity := true, avgAcc := -128 } : Dma).hear (-127)).level,
      (({ Dma.fresh 44100 with mode := 0x83 } : Dma).hear (-128)).parity) = (-128, true) := by decide

/-- V-MW-1 (DMA_MW_DATA_LO_W8): the master volume that a transfer leaves, from 7 before it. -/
theorem test_microwire :
    ([(0x04, 0xE8, 0x07, 0xFF), (0x04, 0xD4, 0x07, 0xFF), (0x04, 0xC0, 0x07, 0xFF), (0x04, 0xFF, 0x07, 0xFF),
      (0x05, 0x28, 0x07, 0xFF), (0x00, 0x00, 0x07, 0xFF), (0x04, 0xE8, 0x00, 0xFF), (0x9D, 0x00, 0xFF, 0xE0)].map
      fun x : Byte × Byte × Byte × Byte => (stateOf (exec (.dmaMwDataLoW8 x.2.1) (withDma { Dma.fresh 44100 with
        mwDataHi := x.1, mwMaskHi := x.2.2.1, mwMaskLo := x.2.2.2, masterVol := 7 }))).map
          fun t => (t.dma.masterVol, t.dma.mwPending)) =
      [some (64, 16), some (32, 16), some (0, 16), some (64, 16), some (7, 16), some (7, 16), some (7, 16),
        some (64, 16)] := by decide

/-- V-MW-2 (DMA_MW_MASK_HI_R8, DMA_MW_MASK_LO_R8): the first, fifteenth, sixteenth and a later halfword read. -/
theorem test_mask_rotation :
    ([16, 2, 1, 0].map fun n => resultOf (step { asked [.pseudo (.r16 0xFF8924)] with
      dma := { Dma.fresh 44100 with mwMaskHi := 0x07, mwMaskLo := 0xFF, mwPending := n } })) =
      [some (.half 0x0FFE), some (.half 0x83FF), some (.half 0x07FF), some (.half 0x07FF)] := by decide

/-- V-SYS-6 (SYS_SAMPLE): Timer A, then Timer D, are dispatched to their vectors; no player tick at index 1. -/
theorem test_dispatch_order :
    ((stateOf (exec .sysSample { withMfp { Mfp.fresh 44100 with
        iera := 0x20, imra := 0x20, ierb := 0x10, imrb := 0x10, tacr := 1, tcdcr := 1
        timers := { (Mfp.fresh 44100).timers with a := ⟨1, 1, 0, false⟩, d := ⟨1, 1, 0, false⟩ } } with
        sys := ⟨1, 0, false⟩ })).map fun t => t.env.dispatched.map fun r => (r.kind, r.target)) =
      some [(.irq .A, 0x000134), (.irq .D, 0x000110)] := by decide

/-- R501, R502 (SYS_SAMPLE): the sample index counts on, and V-SYS-2's sums are clamped. -/
theorem test_sample_step :
    ((stateOf (exec .sysSample State.reset)).map fun t => t.sys.n) = some 1 ∧
    clamp 65024 (-32768) 32767 = 32767 ∧ clamp (-65536) (-32768) 32767 = -32768 := by decide

/-- R512, R267: the bytes of the diagnostic word: gated index 31 of voice A, 1 of B and C (level 0, gates open), and DMA
levels clamped to a signed byte. -/
theorem test_diagnostic_word :
    visWord (gateState 0x0F 0x3F false false 0) { Dma.fresh 44100 with level := 0x20 } = 0x2000000F ∧
    visWord (gateState 0x0F 0x3F false false 0) { Dma.fresh 44100 with level := 254 } = 0x7F00000F ∧
    visWord (gateState 0x10 0x3F false false 17) { Dma.fresh 44100 with level := -256 } = 0x80000008 := by decide

/-- V-SYS-4: `call_and_wait` with a host that returns at its first step succeeds, and clocks nothing. -/
theorem test_call_and_wait :
    ((stateOf (step { State.reset with env := ⟨[.callAndWait 0x010000 0 1], [⟨[[]], true⟩], [], [], []⟩ })).map
      fun t => (t.out, t.psg.resAcc, t.dma.acc, t.sys.n)) = some (.success true, 0, 0, 0) ∧
    resultOf (step { State.reset with env := ⟨[.callAndWait 0x010000 0 0], [⟨[[]], true⟩], [], [], []⟩ }) =
      some (.success false) := by decide

/-- R700, R301, R401, R201: the resets put back what a program changed, and refuse operands out of range (R7). -/
theorem test_resets :
    ((stateOf (exec (.sysReset 48000) (playing 1 0x82 0x010003 5))).map
      fun t => (t.ram, t.dma.masterVol, t.dma.cur, t.psg.host)) = some ([], 64, 0, 48000) ∧
    ((stateOf (exec (.mfpReset 48000) (withMfp (timerA 7 0x20 0x20 ⟨1, 1, 9, true⟩)))).map
      fun t => (t.mfp.timers.a, t.mfp.iera, t.mfp.host)) = some (⟨0, 256, 0, false⟩, 0, 48000) ∧
    ((stateOf (exec (.dmaReset 48000) (playing 1 0x82 0x010003 5))).map fun t => (t.dma.ctrl, t.dma.acc)) =
      some (0, 0) ∧
    ((stateOf (exec (.psgReset 48000 1000007) (withPsg (regs [(7, 0x3F)])))).map
      fun t => (t.psg.reg 7, t.psg.clk8, t.psg.lfsr)) = some (0, 125000, 1) ∧
    stateOf (exec (.psgReset 48000 7) State.reset) = none := by decide

/-- P2's handler (R503): the host's transactions of a dispatch are applied in order and its reads recorded. -/
theorem test_handler :
    ((hostDispatch (.irq .A) 0x000134 0 9 { withPsg (regs [(8, 0x0F)]) with
        env := ⟨[], [⟨[[.write 0xFF8800 0x08], [.read 0xFF8800], [.write 0xFF8802 0x00]], true⟩], [], [], []⟩ }).psg.reg
      8 = 0) ∧
    ((hostDispatch (.irq .A) 0x000134 0 9 { withPsg (regs [(8, 0x0F)]) with
        env := ⟨[], [⟨[[.write 0xFF8800 0x08], [.read 0xFF8800], [.write 0xFF8802 0x00]], true⟩], [], [], []⟩
      }).env.dispatched.map fun r => (r.reads, r.returned)) = [([0x0F], true)] := by decide

/-! Witnesses: for each obligation with hypotheses, a state and operands that meet all of them. -/

/-- A sound chip that is not right after reset, within every range. -/
def chipUsed : Psg := { regs [(0, 0x1C), (1, 1), (7, 0x3E), (8, 0x0F)] with sel := 8, resAcc := 44099 }

theorem witness_PsgOk : PsgOk chipUsed where
  masked := by unfold Psg.masked; decide
  tones := by intro v; cases v <;> decide
  noiseCnt := by decide
  lfsr := by decide
  envCnt := by decide
  envPos := by decide
  host := by decide
  resAcc := by decide
  dcForm := by decide
  dcSlots := fun _ h => absurd h List.not_mem_nil
  dcSum := rfl
  dcIdx := Nat.succ_pos _

theorem witness_MfpOk : MfpOk (timerA 7 0x20 0x20 ⟨0, 256, 5, true⟩) where
  host := by decide
  tacr := by decide
  tbcr := by decide
  tcdcr := by decide
  counters := by intro t; cases t <;> decide
  gpi7 := by decide

theorem witness_DmaOk : DmaOk (playing 1 0x82 0x010003 44099).dma where
  host := by decide
  ctrl := by decide
  mode := by decide
  acc := by decide
  level := by decide
  pair := by decide
  mwPending := by decide
  masterVol := by decide

/-- A sound machine in use, with an operation waiting. -/
def used (q : List Request) : State :=
  { playing 1 0x82 0x010003 44099 with
    psg := chipUsed, mfp := timerA 7 0x20 0x20 ⟨0, 256, 5, true⟩, sys := ⟨1, 0, false⟩, env := ⟨q, [], [], [], []⟩ }

theorem witness_RamOk (q : List Request) : RamOk (used q) := by
  show Memory.wf (playing 1 0x82 0x010003 44099).ram = true
  decide

theorem witness_Sound : Sound (used []) where
  ram := witness_RamOk []
  psg := witness_PsgOk
  mfp := witness_MfpOk
  dma := witness_DmaOk
  spt := by decide

theorem witness_DecodeInvertsEncode :
    Instr.wf (.ramW8 0x3FFFFF 0xAB) = true ∧ Instr.wf (.dmaUnusedR8 0x25) = false ∧
    Instr.wf (.dmaUnusedR8 0x20) = true ∧ Instr.wf (.psgReset 1 8) = true := by decide

theorem witness_EncodeInvertsDecodeOnKeys :
    decode ⟨.internal, 0b0110100, 7, 7, 7⟩ = .ok (.mfpTick .GPI7) ∧
    decode ⟨.bus8, 0x2FF8802, 0x3E, 0, 0⟩ = .ok (.psgDataW8 0 0x3E) := by decide

theorem witness_DecoderFollowsTheTable :
    (0x23FFFFF : BitVec 26).getLsbD 24 = false ∧ (0x0400000 : BitVec 26).getLsbD 24 = false := by decide

/-- Each clause at the ends of its range. -/
theorem witness_InputsWithNoStep :
    State.reset.sys.invalid = false ∧ (0xA ≤ 0xA ∧ 0xF ≤ 0xF) ∧
    (⟨.internal, 0xA, 0, 0, 0⟩ : Packet).key = BitVec.ofNat 26 0xA ∧
    (⟨.internal, 0xF, 0, 0, 0⟩ : Packet).key = BitVec.ofNat 26 0xF ∧
    (⟨.internal, 0b0110101, 0, 0, 0⟩ : Packet).key = BitVec.ofNat 26 (8 * 6 + 5) ∧
    (⟨.internal, 0b0111111, 0, 0, 0⟩ : Packet).key = BitVec.ofNat 26 (8 * 7 + 7) ∧
    (0xF < (0x10 : BitVec 26).toNat ∧ (0x2F : BitVec 26).toNat < 0x30 ∧ 0x3F < (0x40 : BitVec 26).toNat) ∧
    (0x1000000 : BitVec 26).getLsbD 24 = true ∧ (0x3FF8800 : BitVec 26).getLsbD 24 = true ∧
    15 < (16 : BitVec 26).toNat ∧
    ((asked [.arguments ⟨0, 0, 0, 0, 0⟩]).sys.invalid = false ∧
      (asked [.arguments ⟨0, 0, 0, 0, 0⟩]).env.queue = .arguments ⟨0, 0, 0, 0, 0⟩ :: []) ∧
    (1 ≤ 1 ∧ 7 < 8) := by decide

theorem witness_StepRunsTheDecodedOperation :
    (asked [.op ⟨.internal, 3, 0, 0, 0⟩]).sys.invalid = false ∧
    (asked [.op ⟨.internal, 3, 0, 0, 0⟩]).env.queue = .op ⟨.internal, 3, 0, 0, 0⟩ :: [] ∧
    decode ⟨.internal, 3, 0, 0, 0⟩ = .ok .psgTick ∧ Instr.wf .psgTick = true := by decide

theorem witness_SessionEndsOnFatalConditions :
    ({ State.reset with sys := ⟨0, 0, true⟩ } : State).sys.invalid = true ∧
    ((asked [.fatal .resetInstruction]).sys.invalid = false ∧
      (asked [.fatal .resetInstruction]).env.queue = .fatal .resetInstruction :: []) ∧
    (State.reset.sys.invalid = false ∧ State.reset.env.queue = []) := by decide

/-- One operation of every row meets EveryOperationCompletes's hypothesis. -/
theorem witness_EveryOperationCompletes :
    ([.ramR8 0, .ramW8 0x3FFFFF 1, .psgSelW8 0 7, .psgSelR8 0, .psgDataW8 0 7, .psgDataR8 0, .psgOddW8 0 7, .psgOddR8 0,
      .dmaCtrlR8, .dmaCtrlW8 1, .dmaStartHiR8, .dmaStartHiW8 1, .dmaStartMidR8, .dmaStartMidW8 1, .dmaStartLoR8,
      .dmaStartLoW8 1, .dmaCntHiR8, .dmaCntHiW8 1, .dmaCntMidR8, .dmaCntMidW8 1, .dmaCntLoR8, .dmaCntLoW8 1,
      .dmaEndHiR8, .dmaEndHiW8 1, .dmaEndMidR8, .dmaEndMidW8 1, .dmaEndLoR8, .dmaEndLoW8 1, .dmaModeR8, .dmaModeW8 1,
      .dmaMwDataHiR8, .dmaMwDataHiW8 1, .dmaMwDataLoR8, .dmaMwDataLoW8 1, .dmaMwMaskHiR8, .dmaMwMaskHiW8 1,
      .dmaMwMaskLoR8, .dmaMwMaskLoW8 1, .dmaUnusedR8 0x14, .dmaUnusedW8 0x20 1] : List Instr).all Instr.wf = true ∧
    ([.mfpGpipR8, .mfpGpipW8 1, .mfpAerR8, .mfpAerW8 1, .mfpDdrR8, .mfpDdrW8 1, .mfpIeraR8, .mfpIeraW8 1, .mfpIerbR8,
      .mfpIerbW8 1, .mfpIpraR8, .mfpIpraW8 1, .mfpIprbR8, .mfpIprbW8 1, .mfpIsraR8, .mfpIsraW8 1, .mfpIsrbR8,
      .mfpIsrbW8 1, .mfpImraR8, .mfpImraW8 1, .mfpImrbR8, .mfpImrbW8 1, .mfpVrR8, .mfpVrW8 1, .mfpTacrR8, .mfpTacrW8 1,
      .mfpTbcrR8, .mfpTbcrW8 1, .mfpTcdcrR8, .mfpTcdcrW8 1, .mfpTadrR8, .mfpTadrW8 1, .mfpTbdrR8, .mfpTbdrW8 1,
      .mfpTcdrR8, .mfpTcdrW8 1, .mfpTddrR8, .mfpTddrW8 1, .mfpEvenR8 0x24, .mfpEvenW8 0x00 1, .openR8 0x400000,
      .openW8 0xFF8926 1] : List Instr).all Instr.wf = true ∧
    ([.psgWrR0 1, .psgWrR1 1, .psgWrR2 1, .psgWrR3 1, .psgWrR4 1, .psgWrR5 1, .psgWrR6 1, .psgWrR7 1, .psgWrR8 1,
      .psgWrR9 1, .psgWrR10 1, .psgWrR11 1, .psgWrR12 1, .psgWrR13 1, .psgWrR14 1, .psgWrR15 1, .sysReset 1, .sysSample,
      .psgReset 1 8, .psgTick, .psgSample, .mfpReset 1, .mfpTick .GPI7, .mfpSignal .A, .dmaReset 1,
      .dmaSample] : List Instr).all Instr.wf = true := by decide

theorem witness_ByteTransactionsAreBusAccesses : (used []).sys.invalid = false := rfl

theorem witness_RamReadAndWrite :
    RamOk (used []) ∧ (0x3FFFFF : Addr).toNat < 4194304 ∧ 4194304 ≤ 0x400000 := ⟨witness_RamOk [], by decide, by decide⟩

theorem witness_OpenBus :
    region 0x400000 = .openBus ∧ region (0x400000 + 1) = .openBus ∧ region 0xFFFFFF = .openBus ∧
    region 0xFF8926 = .openBus ∧ region (0xFF8926 + 1) = .openBus := by decide

theorem witness_HalfwordsAreBigEndian :
    RamOk (used [.pseudo (.w16 0x3FFFFE 0x1234), .pseudo (.r16 0x3FFFFE)]) ∧
    (used [.pseudo (.w16 0x3FFFFE 0x1234), .pseudo (.r16 0x3FFFFE)]).sys.invalid = false ∧
    (0x3FFFFE : Addr).toNat + 1 < 4194304 ∧
    (used [.pseudo (.w16 0x3FFFFE 0x1234), .pseudo (.r16 0x3FFFFE)]).env.queue =
      .pseudo (.w16 0x3FFFFE 0x1234) :: .pseudo (.r16 0x3FFFFE) :: [] := ⟨witness_RamOk _, rfl, by decide, rfl⟩

theorem witness_WideAccessesAreByteAccesses :
    (asked [.pseudo (.psgw 7 0x3F)]).sys.invalid = false ∧
    (asked [.pseudo (.psgw 7 0x3F)]).env.queue = .pseudo (.psgw 7 0x3F) :: [] := ⟨rfl, rfl⟩

theorem witness_RepeatedWritesAreNoOps :
    RamOk (used []) ∧ (0xFF8802 : Addr) ≠ 0xFF8923 ∧
    ¬(region 0xFF8802 = .psg ∧ (0xFF8802 : Addr).getLsbD 0 = false ∧ (0xFF8802 : Addr).getLsbD 1 = true ∧
      (used []).psg.sel = 13) := ⟨witness_RamOk [], by decide, by decide⟩

/-- The counts just before and at the toggle (period 284, V-PSG-5), and period 0. -/
theorem witness_TonePeriodLaw :
    ((used []).psg.tones.get .A).cnt = 0 ∧ (used []).psg.tonePeriod .A = 284 ∧
    283 ≤ max ((used []).psg.tonePeriod .A) 1 ∧ 284 ≤ max ((used []).psg.tonePeriod .A) 1 ∧
    ((used []).psg.tones.get .B).cnt = 0 ∧ 1 ≤ max ((used []).psg.tonePeriod .B) 1 := by decide

theorem witness_EnvelopePeriodLaw :
    (withPsg { regs [(11, 2)] with envPos := 95 }).psg.envCnt = 0 ∧
    1 ≤ max (withPsg { regs [(11, 2)] with envPos := 95 }).psg.envPeriod 1 ∧
    2 ≤ max (withPsg { regs [(11, 2)] with envPos := 95 }).psg.envPeriod 1 := by decide

theorem witness_ResamplingKeepsExactTime :
    (1 ≤ (used []).psg.host ∧ (used []).psg.resAcc < (used []).psg.host) ∧
    (chipUsed.clk8 = 250000 ∧ chipUsed.host = 44100 ∧ chipUsed.resAcc < chipUsed.host) ∧
    ((Psg.fresh 44100 8).clk8 < (Psg.fresh 44100 8).host ∧
      (Psg.fresh 44100 8).resAcc + (Psg.fresh 44100 8).clk8 < (Psg.fresh 44100 8).host) := by decide

theorem witness_SoundChipSample : PsgOk (used []).psg := witness_PsgOk

theorem witness_StepKeepsTheSoundChipSound :
    (∃ t, step (used [.op ⟨.internal, 3, 0, 0, 0⟩]) = .next t) ∧ PsgOk (used [.op ⟨.internal, 3, 0, 0, 0⟩]).psg :=
  ⟨⟨_, rfl⟩, witness_PsgOk⟩

theorem witness_StepKeepsTheTimersSound :
    (∃ t, step (used [.op ⟨.internal, 0b0110000, 0, 0, 0⟩]) = .next t) ∧
    MfpOk (used [.op ⟨.internal, 0b0110000, 0, 0, 0⟩]).mfp := ⟨⟨_, rfl⟩, witness_MfpOk⟩

theorem witness_StepKeepsTheDmaChannelSound :
    (∃ t, step (used [.op ⟨.internal, 9, 0, 0, 0⟩]) = .next t) ∧ DmaOk (used [.op ⟨.internal, 9, 0, 0, 0⟩]).dma :=
  ⟨⟨_, rfl⟩, witness_DmaOk⟩

theorem witness_StepKeepsTheRamCanonical :
    (∃ t, step (used [.op ⟨.bus8, 0x2010000, 0, 0, 0⟩]) = .next t) ∧ RamOk (used [.op ⟨.bus8, 0x2010000, 0, 0, 0⟩]) :=
  ⟨⟨_, rfl⟩, witness_RamOk _⟩

/-- DataWriteAndRead's inner premise: Timer A is stopped right after reset. -/
theorem witness_DataWriteAndRead : State.reset.mfp.ctrl .A = 0 ∧ State.reset.mfp.ctrl .D = 0 := by decide

theorem witness_TimerTick : 1 ≤ (used []).mfp.host := by decide

/-- A restarted delay-mode timer (V-MFP-3): the first tick, and the fourth. -/
theorem witness_DelayTimerLaw :
    1 ≤ (timerA 7 0x20 0x20 ⟨1, 1, 0, false⟩).host ∧ (timerA 7 0x20 0x20 ⟨1, 1, 0, false⟩).en .A = true ∧
    (timerA 7 0x20 0x20 ⟨1, 1, 0, false⟩).delay .A = true ∧
    ((timerA 7 0x20 0x20 ⟨1, 1, 0, false⟩).timers.get .A).counter =
      reload ((timerA 7 0x20 0x20 ⟨1, 1, 0, false⟩).timers.get .A) ∧
    ((timerA 7 0x20 0x20 ⟨1, 1, 0, false⟩).timers.get .A).acc = 0 ∧ 1 ≤ 1 ∧ 1 ≤ 4 := by decide

theorem witness_TickKeepsTimerStates :
    State.reset.mfp.timerMode .A = .disabled ∧
    (timerA 0 0x20 0 ⟨1, 1, 0, false⟩).timerMode .A = .armed := by decide

theorem witness_DmaRegisterReads :
    dmaUnusedOffset 0x00 = true ∧ dmaUnusedOffset 0x15 = true ∧ dmaUnusedOffset 0x20 = true := by decide

theorem witness_DmaStorageWrites : dmaUnusedOffset 0x02 = true ∧ dmaUnusedOffset 0x20 = true := by decide

theorem witness_DmaSample : 1 ≤ (used []).dma.host ∧ DmaOk (used []).dma := ⟨by decide, witness_DmaOk⟩

/-- V-MW-1: data 0x04D4 under the mask 0x07FF, and under a mask of eight bits. -/
theorem witness_MicrowireTransfer :
    IsCommand (0x04#8 ++ 0xD4#8) (0x07#8 ++ 0xFF#8) 0x4D4 ∧
    IsCommand (0x04#8 ++ 0xD4#8) (0x00#8 ++ 0xFF#8) 0x0D4 := by unfold IsCommand; decide

/-- The first read, the fifteenth, the sixteenth and one more (k = 0, 14, 15, 17). -/
theorem witness_SixteenMaskReads : ∀ k ∈ [0, 14, 15, 17],
    (∃ t, exec (.dmaMwDataLoW8 0xD4) (used (List.replicate (k + 1) (.pseudo (.r16 0xFF8924)))) = .next t) ∧
    (used (List.replicate (k + 1) (.pseudo (.r16 0xFF8924)))).sys.invalid = false ∧
    (used (List.replicate (k + 1) (.pseudo (.r16 0xFF8924)))).env.queue =
      List.replicate (k + 1) (.pseudo (.r16 0xFF8924)) := fun _ _ => ⟨⟨_, rfl⟩, rfl, rfl⟩

theorem witness_ResetsLeaveTheResetValues : 1 ≤ 1 ∧ 8 ≤ 8 ∧ 1 ≤ 44100 ∧ 8 ≤ 2000000 := by decide

/-- With a player tick (SYS.n = 0) and without one (SYS.n = 1). -/
theorem witness_DispatchesOfASample :
    (∃ t, exec .sysSample State.reset = .next t) ∧ State.reset.sys.n % State.reset.song.spt = 0 ∧
    (∃ t, exec .sysSample (used []) = .next t) ∧ (used []).sys.n % (used []).song.spt ≠ 0 :=
  ⟨⟨_, rfl⟩, by decide, ⟨_, rfl⟩, by decide⟩

theorem witness_OutputIsClamped : Sound (used []) := witness_Sound

/-- A dispatch that only reads; and one that its budget of one step cuts before its last step. -/
theorem witness_DispatchesClockNoDevice :
    ((planned { State.reset with env := ⟨[], [⟨[[.read 0xFF8924]], true⟩], [], [], []⟩ }).steps.all
      fun xs => xs.all isRead) = true ∧
    ({ State.reset with env := ⟨[], [⟨[[.write 0 1]] ++ [[.write 1 1]], true⟩], [], [], []⟩ } : State).env.runs =
      ⟨[[.write 0 1]] ++ [[.write 1 1]], true⟩ :: [] ∧ ([[.write 1 1]] : List (List BusTx)) ≠ [] :=
  ⟨rfl, rfl, by decide⟩

/-- A state whose sample begins with a player tick, Timer A enabled in event mode with its flag set. -/
def eventWaiting : State := { withMfp (timerA 8 0x20 0x20 ⟨2, 1, 0, true⟩) with song := ⟨882, 0, 0, 0, 0⟩ }

theorem witness_eventWaiting : MfpOk eventWaiting.mfp where
  host := by decide
  tacr := by decide
  tbcr := by decide
  tcdcr := by decide
  counters := by intro t; cases t <;> decide
  gpi7 := by decide

/-- With a player tick, Timer A in event mode and IRQ_BUDGET 0; and with no player tick. -/
theorem witness_EventsAreCountedOneSampleLater :
    (MfpOk eventWaiting.mfp ∧ (∃ t, exec .sysSample eventWaiting = .next t) ∧
      (player eventWaiting).mfp.en .A = true ∧ (player eventWaiting).mfp.eventMode .A = true ∧
      eventWaiting.song.irqBudget = 0 ∧ eventWaiting.sys.n % eventWaiting.song.spt = 0) ∧
    MfpOk (used []).mfp ∧ (∃ t, exec .sysSample (used []) = .next t) ∧ (used []).sys.n % (used []).song.spt ≠ 0 :=
  ⟨⟨witness_eventWaiting, ⟨_, rfl⟩, by decide, by decide, rfl, by decide⟩, witness_MfpOk, ⟨_, rfl⟩, by decide⟩

/-- One byte past the end of RAM, and exactly to its end. -/
theorem witness_Upload :
    (RamOk (used [.upload [1, 2] 0x3FFFFF]) ∧ (used [.upload [1, 2] 0x3FFFFF]).sys.invalid = false ∧
      (used [.upload [1, 2] 0x3FFFFF]).env.queue = .upload [1, 2] 0x3FFFFF :: [] ∧
      4194304 < 0x3FFFFF + ([1, 2] : List Byte).length) ∧
    (RamOk (used [.upload [1, 2] 0x3FFFFE]) ∧ (used [.upload [1, 2] 0x3FFFFE]).sys.invalid = false ∧
      (used [.upload [1, 2] 0x3FFFFE]).env.queue = .upload [1, 2] 0x3FFFFE :: [] ∧
      ¬4194304 < 0x3FFFFE + ([1, 2] : List Byte).length) :=
  ⟨⟨witness_RamOk _, rfl, rfl, by decide⟩, ⟨witness_RamOk _, rfl, rfl, by decide⟩⟩

theorem witness_CallAndWait :
    (used [.callAndWait 0x010000 0 1]).sys.invalid = false ∧
    (used [.callAndWait 0x010000 0 1]).env.queue = .callAndWait 0x010000 0 1 :: [] := ⟨rfl, rfl⟩

theorem witness_RenderIsManySamples :
    (used [.render 2 true]).sys.invalid = false ∧ (used [.render 2 true]).env.queue = .render 2 true :: [] := ⟨rfl, rfl⟩

end Sys2Proof.Tests
end

