-- ==== Sys2Proof/Proofs/Scope.lean ====
section
/-! PROOFS of the family 00_scope: the inputs that are given no step, and the implementation parameters. First the rules
of the step and of the decoder's refusals that the two obligations need. -/

namespace Sys2Proof.Machine

open Sys2Proof.Stated

/-! The step on the request at the head of the queue. -/

/-- In a valid session a step runs the request at the head of the queue, on the state without it. -/
theorem step_of_queue_cons {s : State} {r : Request} {q : List Request} (hvalid : s.sys.invalid = false)
    (hqueue : s.env.queue = r :: q) : step s = runRequest (dequeued s q) r := by
  simp only [step, runNext, takeRequest, hvalid, hqueue]
  rfl

/-- A packet put at the head of the queue is the next thing run, and the queue is then as before. -/
theorem step_putPacket {s : State} (hvalid : s.sys.invalid = false) (p : Packet) :
    step (putPacket s p) = runPacket s p :=
  step_of_queue_cons (s := putPacket s p) hvalid (putPacket_queue s p)

/-- A packet that the decoder refuses is refused by the step, with the decoder's reason. -/
theorem step_putPacket_of_decode_error {s : State} (hvalid : s.sys.invalid = false) {p : Packet} {e : DecodeError}
    (hdecode : decode p = .error e) : step (putPacket s p) = .refused (.undecodable e) := by
  rw [step_putPacket hvalid, runPacket, hdecode]

/-! What the decoder refuses. -/

theorem decode_of_bus8 {p : Packet} (hfmt : p.fmt = .bus8) : decode p = decodeBus8 p.key p.data := by
  rw [decode, hfmt]

theorem decode_of_psgreg {p : Packet} (hfmt : p.fmt = .psgreg) : decode p = decodePsgReg p.key p.data := by
  rw [decode, hfmt]

theorem decode_of_internal {p : Packet} (hfmt : p.fmt = .internal) :
    decode p = decodeInternal p.key p.rate p.clock := by
  rw [decode, hfmt]

/-- R100: a byte key has S = 0. -/
theorem decodeBus8_halfwordKey {k : BitVec 26} (hS : k.getLsbD 24 = true) (d : Byte) :
    decodeBus8 k d = .error .halfwordKey :=
  if_pos hS

/-- R102: a PSGREG key has four bits. -/
theorem decodePsgReg_noSuchPsgReg {k : BitVec 26} (hkey : 15 < k.toNat) (d : Byte) :
    decodePsgReg k d = .error .noSuchPsgReg := by
  unfold decodePsgReg
  split
  case h_17 => rfl
  all_goals omega

/-- R103: the timer operands are 0 to 4. -/
theorem decodeTimer_reservedTimer {t : Nat} (ht : 5 ≤ t) : decodeTimer t = .error .reservedTimer := by
  unfold decodeTimer
  split
  case h_6 => rfl
  all_goals omega

/-- An INTERNAL key that is no row's 4-bit code is read as the 7 bits `OP, T` (R103). -/
theorem decodeInternal_of_no_code {k : BitVec 26} (hkey : k.toNat = 6 ∨ k.toNat = 7 ∨ 0xA ≤ k.toNat)
    (rate clock : Nat) :
    decodeInternal k rate clock =
      if k.toNat / 8 = 0x6 then (decodeTimer (k.toNat % 8)).map .mfpTick
      else if k.toNat / 8 = 0x7 then (decodeTimer (k.toNat % 8)).map .mfpSignal
      else .error .reservedOp := by
  unfold decodeInternal
  split
  case h_9 => rfl
  all_goals omega

/-- An INTERNAL key that is no row's code and has neither timer operation's `OP` is no operation (R103, log 4). -/
theorem decodeInternal_reservedOp {k : BitVec 26} (hkey : k.toNat = 6 ∨ k.toNat = 7 ∨ 0xA ≤ k.toNat)
    (htick : k.toNat / 8 ≠ 6) (hsignal : k.toNat / 8 ≠ 7) (rate clock : Nat) :
    decodeInternal k rate clock = .error .reservedOp := by
  rw [decodeInternal_of_no_code hkey, if_neg htick, if_neg hsignal]

/-- A timer operation with a reserved operand `T` is no operation (R103). -/
theorem decodeInternal_reservedTimer {k : BitVec 26} (hop : k.toNat / 8 = 6 ∨ k.toNat / 8 = 7)
    (ht : 5 ≤ k.toNat % 8) (rate clock : Nat) : decodeInternal k rate clock = .error .reservedTimer := by
  rw [decodeInternal_of_no_code (by omega), decodeTimer_reservedTimer ht]
  rcases hop with htick | hsignal
  · rw [if_pos htick]; rfl
  · rw [if_neg (by omega), if_pos hsignal]; rfl

/-! What the arguments and the resets refuse (R7). -/

theorem runRequest_arguments_zero {song : Song} (hspt : song.spt = 0) (s : State) :
    runRequest s (.arguments song) = .refused .samplesPerTickZero :=
  if_pos hspt

theorem exec_psgReset_clock_low {rate clock : Nat} (hrate : 1 ≤ rate) (hclock : clock < 8) (s : State) :
    exec (.psgReset rate clock) s = .refused .chipClockTooLow := by
  have hrate' : rate ≠ 0 := by omega
  calc exec (.psgReset rate clock) s = execPsgReset rate clock s := rfl
    _ = .refused .chipClockTooLow := by rw [execPsgReset, if_neg hrate', if_pos hclock]

/-- Settles O5: each packet clause by the decoder's refusal of its keys, the others by the refusal of the arguments and
of the reset operands. -/
theorem inputsWithNoStep : Obligations.InputsWithNoStep := by
  intro s hvalid
  refine ⟨?codes, ?timers, ?otherKeys, ?halfword, ?psgreg, ?arguments,
    ?sysRate, ?mfpRate, ?dmaRate, ?psgRate, ?psgClock⟩
  case codes =>
    intro c p hlo hhi hfmt hkey
    have hnat : p.key.toNat = c := by rw [hkey, BitVec.toNat_ofNat]; omega
    exact step_putPacket_of_decode_error hvalid <| (decode_of_internal hfmt).trans <|
      decodeInternal_reservedOp (by omega) (by omega) (by omega) ..
  case timers =>
    intro op t p hop hlo hhi hfmt hkey
    have hnat : p.key.toNat = 8 * op + t := by rw [hkey, BitVec.toNat_ofNat]; omega
    exact step_putPacket_of_decode_error hvalid <| (decode_of_internal hfmt).trans <|
      decodeInternal_reservedTimer (by omega) (by omega) ..
  case otherKeys =>
    intro p hfmt hkey
    have hnat : p.key.toNat = 6 ∨ p.key.toNat = 7 ∨ (0xF < p.key.toNat ∧ p.key.toNat < 0x30) ∨
        0x3F < p.key.toNat :=
      hkey.imp (congrArg BitVec.toNat) (Or.imp_left (congrArg BitVec.toNat))
    exact step_putPacket_of_decode_error hvalid <| (decode_of_internal hfmt).trans <|
      decodeInternal_reservedOp (by omega) (by omega) (by omega) ..
  case halfword =>
    intro p hfmt hS
    exact step_putPacket_of_decode_error hvalid <| (decode_of_bus8 hfmt).trans (decodeBus8_halfwordKey hS _)
  case psgreg =>
    intro p hfmt hkey
    exact step_putPacket_of_decode_error hvalid <| (decode_of_psgreg hfmt).trans (decodePsgReg_noSuchPsgReg hkey _)
  case arguments =>
    intro song q hqueue hspt
    rw [step_of_queue_cons hvalid hqueue, runRequest_arguments_zero hspt]
  case sysRate => rfl
  case mfpRate => rfl
  case dmaRate => rfl
  case psgRate => exact fun _ => rfl
  case psgClock => exact fun rate clock hrate hclock => exec_psgReset_clock_low hrate hclock s

/-! The parameters. -/

/-- R7: `VOL_TABLE` does not decrease: each entry is the maximum of the one before it and another number. -/
theorem volTable_mono : Monotone volTable :=
  monotone_nat_of_le_succ fun _ => le_max_left _ _

theorem one_le_dcLen : 1 ≤ Config.dcLen := Nat.le_add_left 1 Config.dcLenPred

/-- Settles O27: the parameters with a value by evaluation, the open ones by their constraints alone. -/
theorem implementationParameters : Obligations.ImplementationParameters := by
  refine ⟨rfl, rfl, rfl, rfl, rfl, ?volume, one_le_dcLen, ?volStart, volTable_le, ?volMono⟩
  case volume => exact fun _ => rfl
  case volStart => rfl
  case volMono => exact fun _ _ hij => volTable_mono hij

end Sys2Proof.Machine
end

/-! PROOFS of the family 10_state: every step keeps the ranges of the sound chip, the timers, the DMA-PCM channel and
the RAM, and the views of the registers. First what a decoded operation does: a byte key is a bus access (R74, R75), a
sound-chip key a register write (R102), an internal key one of ten operations (R103). Then a step keeps what the parts'
own operations keep, and last each part's operations keep its ranges. -/

namespace Sys2Proof.Machine

/-! What a decoded operation does. -/

/-- One byte transaction of the bus as an operation: a write, or a read whose byte is handed over (R74, R75). -/
def busAccess (w : Bool) (a : Addr) (d : Byte) (s : State) : State :=
  bif w then busWrite8 s a d else (busRead8 s a).1.give (.byte (busRead8 s a).2)

/-- Both ports, and so the odd offsets too, read the selected register (R203, R212). -/
@[simp] theorem psgRead8_eq_portRead (p : Psg) (off : Byte) : p.read8 off = p.portRead := by
  simp [Psg.read8, Psg.evenRead]

/-- Bits of an address below 8 are bits of its offset. -/
theorem getLsbD_offsetOf (a : Addr) {i : Nat} (hi : i < 8) : (offsetOf a).getLsbD i = a.getLsbD i := by
  simp [offsetOf, hi]

theorem exec_psgRow {a : Addr} (hregion : region a = .psg) (w : Bool) (d : Byte) (s : State) :
    exec (psgRow w a d) s = .next (busAccess w a d s) := by
  have h0 : (offsetOf a).getLsbD 0 = a.getLsbD 0 := getLsbD_offsetOf a (by omega)
  have h1 : (offsetOf a).getLsbD 1 = a.getLsbD 1 := getLsbD_offsetOf a (by omega)
  simp only [busAccess, busWrite8, busRead8, hregion, Psg.write8, psgRead8_eq_portRead, h0, h1, psgRow]
  cases a.getLsbD 0 <;> cases a.getLsbD 1 <;> cases w <;>
    simp [exec, execPsgSelR8, execPsgSelW8, execPsgDataR8, execPsgDataW8, execPsgOddR8, execPsgOddW8]

theorem exec_dmaRow {a : Addr} (hregion : region a = .dma) (w : Bool) (d : Byte) (s : State) :
    exec (dmaRow w (offsetOf a) d) s = .next (busAccess w a d s) := by
  simp only [busAccess, busWrite8, busRead8, hregion, dmaRow, Dma.write8, Dma.read8, Dma.afterRead8]
  generalize (offsetOf a).toNat = off
  split
  case h_16 hmaskHi _ =>
    have hmaskHi : ¬off = 0x24 := hmaskHi
    cases w <;> simp [exec, execDmaUnusedR8, execDmaUnusedW8, *]
  all_goals cases w <;> rfl

theorem exec_mfpRow {a : Addr} (hregion : region a = .mfp) (w : Bool) (d : Byte) (s : State) :
    exec (mfpRow w (offsetOf a) d) s = .next (busAccess w a d s) := by
  simp only [busAccess, busWrite8, busRead8, hregion, mfpRow, Mfp.write8, Mfp.read8]
  generalize (offsetOf a).toNat = off
  split
  case h_20 => cases w <;> simp [exec, execMfpEvenR8, execMfpEvenW8, *]
  all_goals cases w <;> rfl

/-- An operation decoded from a byte key is the bus access that the key names (R74, R75, R101). -/
theorem exec_of_decodeBus8 {k : BitVec 26} {d : Byte} {i : Instr} (hdecode : decodeBus8 k d = .ok i) (s : State) :
    exec i s = .next (busAccess (k.getLsbD 25) (k.extractLsb' 0 24) d s) := by
  unfold decodeBus8 at hdecode
  generalize k.extractLsb' 0 24 = a at hdecode ⊢
  generalize k.getLsbD 25 = w at hdecode ⊢
  split at hdecode
  · cases hdecode
  · cases hdecode
    cases hregion : region a
    case psg => exact exec_psgRow hregion w d s
    case dma => exact exec_dmaRow hregion w d s
    case mfp => exact exec_mfpRow hregion w d s
    all_goals
      simp only [busAccess, busWrite8, busRead8, hregion]
      cases w <;> rfl

/-- An operation decoded from a sound-chip key writes one register (R102, R240 to R255). -/
theorem exec_of_decodePsgReg {k : BitVec 26} {d : Byte} {i : Instr} (hdecode : decodePsgReg k d = .ok i) :
    ∃ n, ∀ s, exec i s = .next { s with psg := s.psg.writeReg n d } := by
  unfold decodePsgReg at hdecode
  split at hdecode <;> cases hdecode
  all_goals exact ⟨_, fun _ => rfl⟩

/-- The internal operations (R103), the operands of the resets within R7's ranges. -/
inductive InternalOp : Instr → Prop where
  | sysReset {rate : Nat} (hrate : 1 ≤ rate) : InternalOp (.sysReset rate)
  | sysSample : InternalOp .sysSample
  | psgReset {rate clock : Nat} (hrate : 1 ≤ rate) (hclock : 8 ≤ clock) : InternalOp (.psgReset rate clock)
  | psgTick : InternalOp .psgTick
  | psgSample : InternalOp .psgSample
  | mfpReset {rate : Nat} (hrate : 1 ≤ rate) : InternalOp (.mfpReset rate)
  | mfpTick (t : TimerId) : InternalOp (.mfpTick t)
  | mfpSignal (t : TimerId) : InternalOp (.mfpSignal t)
  | dmaReset {rate : Nat} (hrate : 1 ≤ rate) : InternalOp (.dmaReset rate)
  | dmaSample : InternalOp .dmaSample

theorem map_decodeTimer_ok {n : Nat} {op : TimerId → Instr} {i : Instr}
    (hdecode : (decodeTimer n).map op = .ok i) : ∃ t, i = op t := by
  cases htimer : decodeTimer n with
  | error e => rw [htimer] at hdecode; cases hdecode
  | ok t => rw [htimer] at hdecode; cases hdecode; exact ⟨t, rfl⟩

theorem internalOp_of_decodeInternal {k : BitVec 26} {rate clock : Nat} {i : Instr}
    (hdecode : decodeInternal k rate clock = .ok i) : InternalOp i := by
  unfold decodeInternal at hdecode
  split at hdecode
  case h_9 =>
    split at hdecode
    · obtain ⟨t, rfl⟩ := map_decodeTimer_ok hdecode
      exact .mfpTick t
    · split at hdecode
      · obtain ⟨t, rfl⟩ := map_decodeTimer_ok hdecode
        exact .mfpSignal t
      · cases hdecode
  all_goals cases hdecode
  · exact .sysReset (Nat.le_add_left 1 _)
  · exact .sysSample
  · exact .psgReset (Nat.le_add_left 1 _) (Nat.le_add_left 8 _)
  · exact .psgTick
  · exact .psgSample
  · exact .mfpReset (Nat.le_add_left 1 _)
  · exact .dmaReset (Nat.le_add_left 1 _)
  · exact .dmaSample

/-! What the parts' own operations keep, a step keeps. -/

/-- A property of the RAM that clearing it and storing a byte keep. -/
structure RamInvariant (R : List Host.Cell → Prop) : Prop where
  clear : R []
  write : ∀ m a v, R m → R (memWrite m a v)

/-- A property of the sound chip that each of its operations keeps (R201, R210, R220, R240 to R255, R260). -/
structure PsgInvariant (C : Psg → Prop) : Prop where
  reset : ∀ rate clock, 1 ≤ rate → C (psgReset rate clock)
  select : ∀ p v, C p → C (p.select v)
  writeReg : ∀ p n v, C p → C (p.writeReg n v)
  tick : ∀ p, C p → C p.tick
  sample : ∀ p, C p → C p.sample.1

/-- A property of the timer controller that each of its operations keeps (R301, R330, R340, R351). -/
structure MfpInvariant (M : Mfp → Prop) : Prop where
  reset : ∀ rate, 1 ≤ rate → M (mfpReset rate)
  write8 : ∀ m off v, M m → M (m.write8 off v)
  tick : ∀ m t, M m → M (m.tick t).1
  signal : ∀ m t, M m → M (m.signal t)

/-- A property of the DMA-PCM channel that each of its operations keeps (R401, R420, R441, R451). -/
structure DmaInvariant (D : Dma → Prop) : Prop where
  reset : ∀ rate, 1 ≤ rate → D (dmaReset rate)
  write8 : ∀ d off v, D d → D (d.write8 off v)
  shiftOnce : ∀ d, D d → D d.shiftOnce
  sample : ∀ ram d m, D d → D (dmaSample ram d m).1

theorem ramInvariant_true : RamInvariant fun _ => True := ⟨trivial, fun _ _ _ _ => trivial⟩

theorem psgInvariant_true : PsgInvariant fun _ => True :=
  ⟨fun _ _ _ => trivial, fun _ _ _ => trivial, fun _ _ _ _ => trivial, fun _ _ => trivial, fun _ _ => trivial⟩

theorem mfpInvariant_true : MfpInvariant fun _ => True :=
  ⟨fun _ _ => trivial, fun _ _ _ _ => trivial, fun _ _ _ => trivial, fun _ _ _ => trivial⟩

theorem dmaInvariant_true : DmaInvariant fun _ => True :=
  ⟨fun _ _ => trivial, fun _ _ _ _ => trivial, fun _ _ => trivial, fun _ _ _ _ => trivial⟩

/-- One property for each of the four parts of the machine. -/
def Parts (R : List Host.Cell → Prop) (C : Psg → Prop) (M : Mfp → Prop) (D : Dma → Prop) (s : State) : Prop :=
  R s.ram ∧ C s.psg ∧ M s.mfp ∧ D s.dma

/-- Each property is kept by its own part's operations. -/
structure PartInvariants (R : List Host.Cell → Prop) (C : Psg → Prop) (M : Mfp → Prop) (D : Dma → Prop) : Prop where
  ram : RamInvariant R
  psg : PsgInvariant C
  mfp : MfpInvariant M
  dma : DmaInvariant D

section StepKeeps
variable {R : List Host.Cell → Prop} {C : Psg → Prop} {M : Mfp → Prop} {D : Dma → Prop}

theorem RamInvariant.memWriteAll (hR : RamInvariant R) :
    ∀ (bs : List Byte) (m : List Host.Cell) (a : Nat), R m → R (memWriteAll m a bs)
  | [], _, _, h => h
  | b :: bs, m, a, h => hR.memWriteAll bs (memWrite m a b) (a + 1) (hR.write m a b h)

theorem PsgInvariant.write8 (hC : PsgInvariant C) (p : Psg) (off v : Byte) (h : C p) : C (p.write8 off v) := by
  rcases psgWrite8_cases p off v with hw | hw | hw <;> rw [hw]
  · exact h
  · exact hC.select p v h
  · exact hC.writeReg p p.selReg v h

theorem MfpInvariant.tickAll (hM : MfpInvariant M) (m : Mfp) (h : M m) : M m.tickAll.1 :=
  hM.tick _ .GPI7 (hM.tick _ .D (hM.tick _ .C (hM.tick _ .B (hM.tick _ .A h))))

/-- A DMA-PCM sample does nothing to the timers but signal Timer A and GPI7 at buffer ends (R421). -/
theorem MfpInvariant.dmaSample (hM : MfpInvariant M) (ram : List Host.Cell) (d : Dma) (m : Mfp) (h : M m) :
    M (dmaSample ram d m).2.1 := by
  have hframe : ∀ d m, M m → M (dmaFrame ram d m).2 := by
    intro d m h
    rcases dmaFrame_cases ram d m with ⟨-, heq⟩ | ⟨-, heq⟩ <;> rw [heq]
    · exact h
    · exact hM.signal _ .GPI7 (hM.signal _ .A h)
  unfold Machine.dmaSample
  split
  · exact dmaLoop_keeps ram (fun _ m => M m) hframe _ _ _ h
  · exact h

variable (inv : PartInvariants R C M D)
include inv

theorem PartInvariants.busRead8 (s : State) (a : Addr) (h : Parts R C M D s) : Parts R C M D (busRead8 s a).1 := by
  obtain ⟨hram, hpsg, hmfp, hdma⟩ := h
  unfold Machine.busRead8 Dma.afterRead8
  split
  case h_3 =>
    refine ⟨hram, hpsg, hmfp, ?_⟩
    dsimp only
    split
    · exact inv.dma.shiftOnce _ hdma
    · exact hdma
  all_goals exact ⟨hram, hpsg, hmfp, hdma⟩

theorem PartInvariants.busWrite8 (s : State) (a : Addr) (v : Byte) (h : Parts R C M D s) :
    Parts R C M D (busWrite8 s a v) := by
  obtain ⟨hram, hpsg, hmfp, hdma⟩ := h
  rcases busWrite8_cases s a v with ⟨-, hw⟩ | ⟨-, hw⟩ | ⟨-, hw⟩ | ⟨-, hw⟩ | ⟨-, hw⟩ <;> rw [hw]
  · exact ⟨inv.ram.write _ _ v hram, hpsg, hmfp, hdma⟩
  · exact ⟨hram, inv.psg.write8 _ _ v hpsg, hmfp, hdma⟩
  · exact ⟨hram, hpsg, hmfp, inv.dma.write8 _ _ v hdma⟩
  · exact ⟨hram, hpsg, inv.mfp.write8 _ _ v hmfp, hdma⟩
  · exact ⟨hram, hpsg, hmfp, hdma⟩

theorem PartInvariants.busAccess (w : Bool) (a : Addr) (d : Byte) (s : State) (h : Parts R C M D s) :
    Parts R C M D (busAccess w a d s) := by
  cases w
  · exact inv.busRead8 s a h
  · exact inv.busWrite8 s a d h

theorem PartInvariants.hostDispatch (kind : DispatchKind) (target : Addr) (arg budget : Nat) (s : State)
    (h : Parts R C M D s) : Parts R C M D (hostDispatch kind target arg budget s) :=
  hostDispatch_keeps (Parts R C M D) inv.busRead8 inv.busWrite8 (fun _ _ h => h) kind target arg budget s h

theorem PartInvariants.tickAll (s : State) (h : Parts R C M D s) : Parts R C M D { s with mfp := s.mfp.tickAll.1 } := by
  obtain ⟨hram, hpsg, hmfp, hdma⟩ := h
  exact ⟨hram, hpsg, inv.mfp.tickAll _ hmfp, hdma⟩

theorem PartInvariants.devicePhase (s : State) (h : Parts R C M D s) : Parts R C M D (devicePhase s).1 := by
  obtain ⟨hram, hpsg, hmfp, hdma⟩ := h
  exact ⟨hram, inv.psg.sample _ hpsg, inv.mfp.dmaSample _ _ _ hmfp, inv.dma.sample _ _ _ hdma⟩

theorem PartInvariants.sampleStep (s : State) (h : Parts R C M D s) : Parts R C M D (sampleStep s).1 :=
  sampleStep_keeps (Parts R C M D) inv.busRead8 inv.busWrite8 (fun _ _ h => h) inv.tickAll inv.devicePhase s h

theorem PartInvariants.internalOp {i : Instr} (hi : InternalOp i) {s t : State} (hexec : exec i s = .next t)
    (h : Parts R C M D s) : Parts R C M D t := by
  obtain ⟨hram, hpsg, hmfp, hdma⟩ := h
  cases hi
  case sysReset rate hrate =>
    rw [exec, execSysReset, if_neg (by omega)] at hexec
    cases hexec
    exact ⟨inv.ram.clear, inv.psg.reset rate _ hrate, inv.mfp.reset rate hrate, inv.dma.reset rate hrate⟩
  case psgReset rate clock hrate hclock =>
    rw [exec, execPsgReset, if_neg (by omega), if_neg (by omega)] at hexec
    cases hexec
    exact ⟨hram, inv.psg.reset rate clock hrate, hmfp, hdma⟩
  case mfpReset rate hrate =>
    rw [exec, execMfpReset, if_neg (by omega)] at hexec
    cases hexec
    exact ⟨hram, hpsg, inv.mfp.reset rate hrate, hdma⟩
  case dmaReset rate hrate =>
    rw [exec, execDmaReset, if_neg (by omega)] at hexec
    cases hexec
    exact ⟨hram, hpsg, hmfp, inv.dma.reset rate hrate⟩
  all_goals cases hexec
  case sysSample => exact inv.sampleStep s.noDispatches ⟨hram, hpsg, hmfp, hdma⟩
  case psgTick => exact ⟨hram, inv.psg.tick _ hpsg, hmfp, hdma⟩
  case psgSample => exact ⟨hram, inv.psg.sample _ hpsg, hmfp, hdma⟩
  case mfpTick t => exact ⟨hram, hpsg, inv.mfp.tick _ t hmfp, hdma⟩
  case mfpSignal t => exact ⟨hram, hpsg, inv.mfp.signal _ t hmfp, hdma⟩
  case dmaSample => exact ⟨hram, hpsg, inv.mfp.dmaSample _ _ _ hmfp, inv.dma.sample _ _ _ hdma⟩

theorem PartInvariants.exec_of_decode {p : Packet} {i : Instr} (hdecode : decode p = .ok i) {s t : State}
    (hexec : exec i s = .next t) (h : Parts R C M D s) : Parts R C M D t := by
  cases hfmt : p.fmt
  case bus8 =>
    rw [decode_of_bus8 hfmt] at hdecode
    rw [exec_of_decodeBus8 hdecode] at hexec
    cases hexec
    exact inv.busAccess _ _ _ s h
  case psgreg =>
    rw [decode_of_psgreg hfmt] at hdecode
    obtain ⟨n, hn⟩ := exec_of_decodePsgReg hdecode
    rw [hn] at hexec
    cases hexec
    obtain ⟨hram, hpsg, hmfp, hdma⟩ := h
    exact ⟨hram, inv.psg.writeReg _ n _ hpsg, hmfp, hdma⟩
  case internal =>
    rw [decode_of_internal hfmt] at hdecode
    exact inv.internalOp (internalOp_of_decodeInternal hdecode) hexec h

theorem PartInvariants.runPseudo (s : State) (p : Pseudo) (h : Parts R C M D s) : Parts R C M D (runPseudo s p) := by
  have hr := inv.busRead8
  have hw := inv.busWrite8
  cases p with
  | r16 a => exact hr _ _ (hr s a h)
  | w16 a v => exact hw _ _ _ (hw s a _ h)
  | r32 a => exact hr _ _ (hr _ _ (hr _ _ (hr s a h)))
  | w32 a v => exact hw _ _ _ (hw _ _ _ (hw _ _ _ (hw s a _ h)))
  | psgw reg d => exact hw _ _ _ (hw s _ reg h)

theorem PartInvariants.runUpload (s : State) (blob : List Byte) (a : Nat) (h : Parts R C M D s) :
    Parts R C M D (runUpload s blob a) := by
  obtain ⟨hram, hpsg, hmfp, hdma⟩ := h
  unfold Machine.runUpload
  split
  · exact ⟨hram, hpsg, hmfp, hdma⟩
  · exact ⟨inv.ram.memWriteAll blob _ a hram, hpsg, hmfp, hdma⟩

theorem PartInvariants.runRender (s : State) (count : Nat) (vis : Bool) (h : Parts R C M D s) :
    Parts R C M D (runRender s count vis) :=
  renderN_keeps (Parts R C M D) inv.busRead8 inv.busWrite8 (fun _ _ h => h) inv.tickAll inv.devicePhase vis count _ h

/-- Properties of the four parts that the parts' own operations keep, every step keeps. -/
theorem PartInvariants.step {s t : State} (hstep : step s = .next t) (h : Parts R C M D s) : Parts R C M D t := by
  obtain ⟨-, ⟨-, rfl⟩ | ⟨r, q, -, hrun⟩⟩ := step_cases hstep
  · exact h
  · obtain ⟨p, i, -, hdecode, hexec⟩ | ⟨p, -, rfl⟩ | ⟨blob, a, -, rfl⟩ | ⟨e, a, n, -, rfl⟩ | ⟨n, v, -, rfl⟩ |
      ⟨song, -, -, rfl⟩ | ⟨runs, -, rfl⟩ := runRequest_cases hrun
    · exact inv.exec_of_decode hdecode hexec h
    · exact inv.runPseudo _ p h
    · exact inv.runUpload _ blob a h
    · exact inv.hostDispatch .call e a n _ h
    · exact inv.runRender _ n v h
    · exact h
    · exact h

end StepKeeps

/-! The RAM. -/

theorem ramInvariant_wf : RamInvariant fun m => Memory.wf m = true where
  clear := wf_nil
  write _ a v h := memWrite_wf h a v

/-- Settles O60: the RAM changes by stores and by being cleared only, and both keep the canonical form. -/
theorem stepKeepsTheRamCanonical : Obligations.StepKeepsTheRamCanonical := by
  intro s t hstep hs
  have inv := PartInvariants.mk ramInvariant_wf psgInvariant_true mfpInvariant_true dmaInvariant_true
  obtain ⟨ht, -, -, -⟩ := inv.step hstep ⟨hs, trivial, trivial, trivial⟩
  exact ht

/-! The timer controller. -/

/-- The ranges of one timer (R33): the count is 1 to 256, and of GPI7 it is 1 as is the reload value. -/
def Timer.InRange (t : TimerId) (x : Timer) : Prop :=
  (1 ≤ x.counter ∧ x.counter ≤ 256) ∧ (t = .GPI7 → x.reload = 1 ∧ x.counter = 1)

theorem mfpOk_iff (m : Mfp) :
    MfpOk m ↔ 1 ≤ m.host ∧ m.tacr &&& 0x0F = m.tacr ∧ m.tbcr &&& 0x0F = m.tbcr ∧ m.tcdcr &&& 0x77 = m.tcdcr ∧
      ∀ t, (m.timers.get t).InRange t := by
  constructor
  · intro h
    refine ⟨h.host, h.tacr, h.tbcr, h.tcdcr, fun t => ⟨h.counters t, ?_⟩⟩
    rintro rfl
    exact h.gpi7
  · rintro ⟨hhost, htacr, htbcr, htcdcr, htimers⟩
    exact ⟨hhost, htacr, htbcr, htcdcr, fun t => (htimers t).1, (htimers .GPI7).2 rfl⟩

theorem MfpOk.inRange {m : Mfp} (h : MfpOk m) (t : TimerId) : (m.timers.get t).InRange t := by
  obtain ⟨-, -, -, -, htimers⟩ := (mfpOk_iff m).1 h
  exact htimers t

/-- A controller with the same rate and control registers is sound if its timers are in range. -/
theorem MfpOk.of_timers {m m' : Mfp} (h : MfpOk m) (hhost : m'.host = m.host) (htacr : m'.tacr = m.tacr)
    (htbcr : m'.tbcr = m.tbcr) (htcdcr : m'.tcdcr = m.tcdcr) (htimers : ∀ t, (m'.timers.get t).InRange t) :
    MfpOk m' :=
  (mfpOk_iff m').2 ⟨hhost ▸ h.host, htacr ▸ h.tacr, htbcr ▸ h.tbcr, htcdcr ▸ h.tcdcr, htimers⟩

theorem Timer.InRange.restart {t : TimerId} {x : Timer} (h : x.InRange t) : x.restart.InRange t := by
  refine ⟨reloadCount_bounds x, fun ht => ?_⟩
  obtain ⟨hreload, -⟩ := h.2 ht
  exact ⟨hreload, by simp [Timer.restart, Timer.reloadCount, hreload]⟩

theorem Timer.InRange.countDown {t : TimerId} {x : Timer} (h : x.InRange t) : x.countDown.1.InRange t := by
  refine ⟨countDown_bounds x h.1, fun ht => ?_⟩
  obtain ⟨hreload, hcounter⟩ := h.2 ht
  simp [Timer.countDown, hcounter, Timer.reloadCount, hreload]

theorem Timer.InRange.countDownN {t : TimerId} :
    ∀ (n : Nat) {x : Timer}, x.InRange t → (Timer.countDownN n x).1.InRange t
  | 0, _, h => h
  | n + 1, _, h => countDownN n h.countDown

theorem Timer.InRange.withAcc {t : TimerId} {x : Timer} (h : x.InRange t) (a : Nat) :
    ({ x with acc := a } : Timer).InRange t := h

theorem Timer.InRange.delayTick {t : TimerId} {x : Timer} (h : x.InRange t) (unit : Nat) :
    (x.delayTick unit).1.InRange t := by
  rw [Timer.delayTick]
  exact (h.countDownN _).withAcc _

theorem Timer.InRange.load {t : TimerId} (ht : t ≠ .GPI7) {x : Timer} (h : x.InRange t) (v : Byte)
    (stopped : Bool) : (x.load v stopped).InRange t := by
  refine ⟨?_, fun hgpi7 => absurd hgpi7 ht⟩
  unfold Timer.load
  split
  · exact reloadCount_bounds { x with reload := v }
  · exact h.1

theorem MfpOk.countTimer {m : Mfp} (h : MfpOk m) (t : TimerId) : (m.countTimer t).1.InRange t := by
  rcases countTimer_cases m t with ⟨heq, -, -⟩ | ⟨heq, -, -, -⟩ | ⟨heq, -⟩ <;> rw [heq]
  · exact h.inRange t
  · exact (h.inRange t).countDown
  · exact (h.inRange t).delayTick _

/-- Restarting timers keeps them in range (R320). -/
theorem MfpOk.restartEnabled (before : Mfp) {after : Mfp} (h : MfpOk after) : MfpOk (before.restartEnabled after) := by
  refine h.of_timers rfl rfl rfl rfl fun t => ?_
  rw [restartEnabled_get]
  split
  · exact (h.inRange t).restart
  · exact h.inRange t

/-- Clearing the fractions of timers keeps them in range (R321). -/
theorem MfpOk.startControlled (before : Mfp) {after : Mfp} (h : MfpOk after) (ts : List TimerId) :
    MfpOk (before.startControlled after ts) := by
  refine h.of_timers rfl rfl rfl rfl fun t => ?_
  rw [startControlled_get]
  split
  · exact (h.inRange t).withAcc 0
  · exact h.inRange t

theorem MfpOk.writeData {m : Mfp} (h : MfpOk m) {t : TimerId} (ht : t ≠ .GPI7) (v : Byte) :
    MfpOk (m.writeData t v) := by
  refine h.of_timers rfl rfl rfl rfl fun u => ?_
  rw [writeData_get]
  split
  next hu => exact hu ▸ (h.inRange t).load ht v _
  next => exact h.inRange u

theorem byte_and_and_self (v mask : Byte) : v &&& mask &&& mask = v &&& mask := by
  rw [BitVec.and_assoc, BitVec.and_self]

theorem MfpOk.write8 {m : Mfp} (h : MfpOk m) (off v : Byte) : MfpOk (m.write8 off v) := by
  unfold Mfp.write8
  split
  case h_4 | h_5 => exact .restartEnabled m (h.of_timers rfl rfl rfl rfl h.inRange)
  case h_13 =>
    refine .startControlled m ?_ _
    exact ⟨h.host, byte_and_and_self v 0x0F, h.tbcr, h.tcdcr, h.counters, h.gpi7⟩
  case h_14 =>
    refine .startControlled m ?_ _
    exact ⟨h.host, h.tacr, byte_and_and_self v 0x0F, h.tcdcr, h.counters, h.gpi7⟩
  case h_15 =>
    refine .startControlled m ?_ _
    exact ⟨h.host, h.tacr, h.tbcr, byte_and_and_self v 0x77, h.counters, h.gpi7⟩
  case h_16 | h_17 | h_18 | h_19 => exact h.writeData (by decide) v
  all_goals exact h.of_timers rfl rfl rfl rfl h.inRange

theorem MfpOk.tick {m : Mfp} (h : MfpOk m) (t : TimerId) : MfpOk (m.tick t).1 := by
  refine h.of_timers rfl rfl rfl rfl fun u => ?_
  rw [mfpTick_get]
  split
  next hu => exact hu ▸ h.countTimer t
  next => exact h.inRange u

theorem MfpOk.signal {m : Mfp} (h : MfpOk m) (t : TimerId) : MfpOk (m.signal t) := by
  refine h.of_timers rfl rfl rfl rfl fun u => ?_
  rw [signal_get]
  split
  next hu => exact hu ▸ h.inRange t
  next => exact h.inRange u

theorem mfpOk_mfpReset {rate : Nat} (hrate : 1 ≤ rate) : MfpOk (mfpReset rate) where
  host := hrate
  tacr := BitVec.zero_and
  tbcr := BitVec.zero_and
  tcdcr := BitVec.zero_and
  counters t := by
    simp only [mfpReset, five_get_build]
    split <;> decide
  gpi7 := ⟨rfl, rfl⟩

theorem mfpInvariant_mfpOk : MfpInvariant MfpOk where
  reset _ hrate := mfpOk_mfpReset hrate
  write8 _ off v h := h.write8 off v
  tick _ t h := h.tick t
  signal _ t h := h.signal t

/-- Settles O40: every write, tick and signal of the timer controller leaves each timer in its range. -/
theorem stepKeepsTheTimersSound : Obligations.StepKeepsTheTimersSound := by
  intro s t hstep hs
  have inv := PartInvariants.mk ramInvariant_true psgInvariant_true mfpInvariant_mfpOk dmaInvariant_true
  obtain ⟨-, -, ht, -⟩ := inv.step hstep ⟨trivial, trivial, hs, trivial⟩
  exact ht

/-! The DMA-PCM channel. -/

/-- The ranges of the channel's state but for its clock (R35 to R37): inside a sample the clock holds several frames. -/
def Dma.InRange (d : Dma) : Prop := DmaOk { d with acc := 0 }

theorem dmaOk_iff (d : Dma) : DmaOk d ↔ d.InRange ∧ d.acc < d.host := by
  constructor
  · intro h
    exact ⟨⟨h.host, h.ctrl, h.mode, h.host, h.level, h.pair, h.mwPending, h.masterVol⟩, h.acc⟩
  · rintro ⟨h, hacc⟩
    exact ⟨h.host, h.ctrl, h.mode, hacc, h.level, h.pair, h.mwPending, h.masterVol⟩

theorem DmaOk.inRange {d : Dma} (h : DmaOk d) : d.InRange := ((dmaOk_iff d).1 h).1

theorem Dma.InRange.refetch {d : Dma} (h : d.InRange) : d.refetch.InRange :=
  ⟨h.host, h.ctrl, h.mode, h.acc, h.level, h.pair, h.mwPending, h.masterVol⟩

theorem Dma.InRange.withCtrl {d : Dma} (h : d.InRange) {v : Byte} (hv : v &&& 0x03 = v) :
    ({ d with ctrl := v } : Dma).InRange :=
  ⟨h.host, hv, h.mode, h.acc, h.level, h.pair, h.mwPending, h.masterVol⟩

theorem silentLevel_inRange : (-256 : Int) ≤ 0 ∧ (0 : Int) ≤ 254 := by decide

theorem Dma.InRange.clearStream {d : Dma} (h : d.InRange) : DmaOk d.clearStream :=
  ⟨h.host, h.ctrl, h.mode, h.host, silentLevel_inRange, rfl, h.mwPending, h.masterVol⟩

theorem DmaOk.writeCtrl {d : Dma} (h : DmaOk d) (v : Byte) : DmaOk (d.writeCtrl v) := by
  have hctrl : ({ d with ctrl := v &&& 0x03 } : Dma).InRange := h.inRange.withCtrl (byte_and_and_self v 0x03)
  unfold Dma.writeCtrl
  dsimp only
  split
  · exact hctrl.refetch.clearStream
  · exact (dmaOk_iff _).2 ⟨hctrl, h.acc⟩

/-- The master volume after a transfer is one that a command sets, or the one before (R440). -/
theorem transfer_masterVol_le {d : Dma} (h : d.masterVol ≤ 64) : d.transfer.masterVol ≤ 64 := by
  unfold Dma.transfer
  cases hvol : (mwCommand d.mwData d.mwMask).bind mwVolume with
  | none => exact h
  | some v =>
    obtain ⟨cmd, -, hcmd⟩ := Option.bind_eq_some_iff.1 hvol
    exact mwVolume_le cmd v hcmd

theorem DmaOk.write8 {d : Dma} (h : DmaOk d) (off v : Byte) : DmaOk (d.write8 off v) := by
  unfold Dma.write8
  split
  case h_1 => exact h.writeCtrl v
  case h_11 =>
    exact ⟨h.host, h.ctrl, byte_and_and_self v 0x83, h.acc, h.level, h.pair, h.mwPending, h.masterVol⟩
  case h_13 =>
    exact ⟨h.host, h.ctrl, h.mode, h.acc, h.level, h.pair, Nat.le_refl 16, transfer_masterVol_le h.masterVol⟩
  all_goals exact ⟨h.host, h.ctrl, h.mode, h.acc, h.level, h.pair, h.mwPending, h.masterVol⟩

theorem DmaOk.shiftOnce {d : Dma} (h : DmaOk d) : DmaOk d.shiftOnce :=
  ⟨h.host, h.ctrl, h.mode, h.acc, h.level, h.pair, (Nat.sub_le _ _).trans h.mwPending, h.masterVol⟩

theorem Dma.InRange.fetch {d : Dma} (h : d.InRange) (ram : List Host.Cell) : (d.fetch ram).1.InRange := by
  obtain ⟨heq, -, -⟩ := fetch_spec ram d
  rw [heq]
  exact ⟨h.host, h.ctrl, h.mode, h.acc, h.level, h.pair, h.mwPending, h.masterVol⟩

/-- In double-rate mode the second frame of a pair is heard as the pair's mean (R423). -/
theorem hear_level_of_pair {d : Dma} (hrate : d.rateSel = 3) (hparity : d.parity = true) (f : Int) :
    (d.hear f).level = (d.avgAcc + f) / 2 := by
  refine (congrArg Dma.level ((if_pos hrate).trans (if_pos hparity))).trans ?_
  generalize d.avgAcc + f = sum
  refine Eq.trans ?_ (Int.shiftRight_eq_div_pow sum 1)
  cases sum <;> rfl

/-- A frame within the range of two samples leaves the level and the pair in range (R420, R423). -/
theorem Dma.InRange.hear {d : Dma} (h : d.InRange) {f : Int} (hlo : -256 ≤ f) (hhi : f ≤ 254) :
    (d.hear f).InRange := by
  have hpair : if d.parity then -256 ≤ d.avgAcc ∧ d.avgAcc ≤ 254 else d.avgAcc = 0 := h.pair
  by_cases hrate : d.rateSel = 3
  · by_cases hparity : d.parity = true
    · rw [if_pos hparity] at hpair
      have hlevel : -256 ≤ (d.hear f).level ∧ (d.hear f).level ≤ 254 := by
        rw [hear_level_of_pair hrate hparity]
        omega
      rw [Dma.hear, if_pos hrate, if_pos hparity] at hlevel ⊢
      exact ⟨h.host, h.ctrl, h.mode, h.acc, hlevel, rfl, h.mwPending, h.masterVol⟩
    · rw [if_neg hparity] at hpair
      have hopen : -256 ≤ d.avgAcc + f ∧ d.avgAcc + f ≤ 254 := by omega
      rw [Dma.hear, if_pos hrate, if_neg hparity]
      exact ⟨h.host, h.ctrl, h.mode, h.acc, h.level, hopen, h.mwPending, h.masterVol⟩
  · rw [Dma.hear, if_neg hrate]
    exact ⟨h.host, h.ctrl, h.mode, h.acc, ⟨hlo, hhi⟩, hpair, h.mwPending, h.masterVol⟩

theorem Dma.InRange.bufferEnd {d : Dma} (h : d.InRange) : d.bufferEnd.InRange := by
  have hctrl : d.ctrl &&& 0x03 = d.ctrl := h.ctrl
  unfold Dma.bufferEnd
  split
  · exact h.refetch
  · have hstopped : d.ctrl &&& 0xFE &&& 0x03 = d.ctrl &&& 0xFE := by
      rw [BitVec.and_assoc, BitVec.and_comm 0xFE, ← BitVec.and_assoc, hctrl]
    exact (h.refetch.withCtrl hstopped).clearStream.inRange

theorem Dma.InRange.frame {d : Dma} (h : d.InRange) (ram : List Host.Cell) (m : Mfp) :
    (dmaFrame ram d m).1.InRange := by
  have hclock : ({ d with acc := d.acc - d.host } : Dma).InRange := h
  obtain ⟨-, hlo, hhi⟩ := fetch_spec ram { d with acc := d.acc - d.host }
  have hheard := (hclock.fetch ram).hear hlo hhi
  rcases dmaFrame_cases ram d m with ⟨-, heq⟩ | ⟨-, heq⟩ <;> rw [heq]
  · exact hheard
  · exact hheard.bufferEnd

/-- Fetching and hearing a frame leave the control register, the host rate and the clock alone. -/
theorem fetch_hear_frame (ram : List Host.Cell) (d : Dma) (f : Int) :
    ((d.fetch ram).1.hear f).ctrl = d.ctrl ∧ ((d.fetch ram).1.hear f).host = d.host ∧
      ((d.fetch ram).1.hear f).acc = d.acc := by
  obtain ⟨heq, -, -⟩ := fetch_spec ram d
  rw [hear_eq, heq]
  exact ⟨rfl, rfl, rfl⟩

@[simp] theorem bufferEnd_host (d : Dma) : d.bufferEnd.host = d.host := by
  rcases bufferEnd_cases d with ⟨-, heq⟩ | ⟨-, heq⟩ <;> rw [heq]

@[simp] theorem dmaFrame_host (ram : List Host.Cell) (d : Dma) (m : Mfp) : (dmaFrame ram d m).1.host = d.host := by
  obtain ⟨-, hhost, -⟩ := fetch_hear_frame ram { d with acc := d.acc - d.host }
    (({ d with acc := d.acc - d.host } : Dma).fetch ram).2
  rcases dmaFrame_cases ram d m with ⟨-, heq⟩ | ⟨-, heq⟩ <;> rw [heq]
  · exact hhost
  · exact (bufferEnd_host _).trans hhost

/-- A turn on a playing channel takes one frame's worth of the clock and goes on, or a buffer end stopped the channel
with its clock at 0 (R420, R421). -/
theorem dmaFrame_clock (ram : List Host.Cell) {d : Dma} (hplay : d.play = true) (m : Mfp) :
    ((dmaFrame ram d m).1.acc = d.acc - d.host ∧ (dmaFrame ram d m).1.play = true) ∨ (dmaFrame ram d m).1.acc = 0 := by
  obtain ⟨hctrl, -, hacc⟩ := fetch_hear_frame ram { d with acc := d.acc - d.host }
    (({ d with acc := d.acc - d.host } : Dma).fetch ram).2
  generalize hheard : (({ d with acc := d.acc - d.host } : Dma).fetch ram).1.hear
    (({ d with acc := d.acc - d.host } : Dma).fetch ram).2 = heard at hctrl hacc
  have hplaying : heard.play = true := by rw [Dma.play, hctrl]; exact hplay
  rcases dmaFrame_cases ram d m with ⟨-, heq⟩ | ⟨-, heq⟩ <;> rw [heq] <;> dsimp only <;> rw [hheard]
  · exact .inl ⟨hacc, hplaying⟩
  · rcases bufferEnd_cases heard with ⟨-, hend⟩ | ⟨-, hend⟩ <;> rw [hend]
    · exact .inl ⟨hacc, hplaying⟩
    · exact .inr rfl

/-- With a clock of at most `n` whole frames, `n` turns leave less than one frame of it. -/
theorem dmaLoop_sound (ram : List Host.Cell) :
    ∀ (n : Nat) (d : Dma) (m : Mfp), d.InRange → d.play = true → d.acc < (n + 1) * d.host →
      DmaOk (dmaLoop ram n d m).1
  | 0, d, _, h, _, hacc => (dmaOk_iff d).2 ⟨h, by rwa [Nat.zero_add, Nat.one_mul] at hacc⟩
  | n + 1, d, m, h, hplay, hacc => by
    have hframe := h.frame ram m
    have hhost := dmaFrame_host ram d m
    have hclock := dmaFrame_clock ram hplay m
    have hleft : d.acc - d.host < (n + 1) * d.host := by
      rw [Nat.succ_mul (n + 1)] at hacc
      have : 1 ≤ d.host := h.host
      have : 0 < (n + 1) * d.host := by positivity
      omega
    unfold dmaLoop
    dsimp only
    split
    next hplays =>
      refine dmaLoop_sound ram n _ _ hframe hplays ?_
      rw [hhost]
      omega
    next hstopped =>
      have hzero := hclock.resolve_left fun hgoes => hstopped hgoes.2
      exact (dmaOk_iff _).2 ⟨hframe, hzero ▸ hframe.host⟩

theorem DmaOk.sample {d : Dma} (h : DmaOk d) (ram : List Host.Cell) (m : Mfp) : DmaOk (dmaSample ram d m).1 := by
  unfold dmaSample
  split
  next hplay =>
    refine dmaLoop_sound ram _ d.advance m h.inRange hplay ?_
    rw [Nat.mul_comm]
    exact Nat.lt_mul_div_succ d.advance.acc h.host
  next => exact ⟨h.host, h.ctrl, h.mode, h.acc, silentLevel_inRange, h.pair, h.mwPending, h.masterVol⟩

theorem dmaOk_dmaReset {rate : Nat} (hrate : 1 ≤ rate) : DmaOk (dmaReset rate) :=
  ⟨hrate, BitVec.zero_and, BitVec.zero_and, hrate, silentLevel_inRange, rfl, Nat.zero_le 16, Nat.le_refl 64⟩

theorem dmaInvariant_dmaOk : DmaInvariant DmaOk where
  reset _ hrate := dmaOk_dmaReset hrate
  write8 _ off v h := h.write8 off v
  shiftOnce _ h := h.shiftOnce
  sample ram _ m h := h.sample ram m

/-- Settles O48: a sample's loop runs until less than one frame of the clock is left, and every write and mask read
keeps the ranges. -/
theorem stepKeepsTheDmaChannelSound : Obligations.StepKeepsTheDmaChannelSound := by
  intro s t hstep hs
  have inv := PartInvariants.mk ramInvariant_true psgInvariant_true mfpInvariant_true dmaInvariant_dmaOk
  obtain ⟨-, -, -, ht⟩ := inv.step hstep ⟨trivial, trivial, trivial, hs⟩
  exact ht

/-! The sound chip. -/

/-- Cells within their registers' widths stay so when any register is stored under its mask (R202). -/
theorem masked_writeReg {p : Psg} (h : p.masked) (n : Fin 16) (v : Byte) : (p.writeReg n v).masked := by
  intro k
  rw [reg_writeReg]
  split
  next hk => rw [hk, byte_and_and_self]
  next => exact h k

theorem ite_le_of_le {c : Prop} [Decidable c] {a b bound : Nat} (ha : a ≤ bound) (hb : b ≤ bound) :
    (if c then a else b) ≤ bound :=
  (ite_le_sup a b c).trans (sup_le ha hb)

theorem PsgOk.writeReg {p : Psg} (h : PsgOk p) (n : Fin 16) (v : Byte) : PsgOk (p.writeReg n v) := by
  have hmasked := masked_writeReg h.masked n v
  rw [writeReg_eq] at hmasked ⊢
  refine ⟨hmasked, h.tones, h.noiseCnt, h.lfsr, ?_, ?_, h.host, h.resAcc, h.dcForm, h.dcSlots, h.dcSum, h.dcIdx⟩
  · exact ite_le_of_le (Nat.zero_le _) h.envCnt
  · exact ite_le_of_le (Nat.zero_le _) h.envPos

theorem PsgOk.select {p : Psg} (h : PsgOk p) (v : Byte) : PsgOk (p.select v) :=
  ⟨h.masked, h.tones, h.noiseCnt, h.lfsr, h.envCnt, h.envPos, h.host, h.resAcc, h.dcForm, h.dcSlots, h.dcSum, h.dcIdx⟩

/-- A counter that starts again when it has reached its period stays at its bound or below. -/
theorem restart_or_succ_le {bound period cnt : Nat} (hperiod : period ≤ bound) :
    (if period ≤ cnt + 1 then 0 else cnt + 1) ≤ bound := by
  split <;> omega

theorem tonePeriod_le (p : Psg) (v : Voice) : p.tonePeriod v ≤ 4096 :=
  (BitVec.isLt _).le

theorem noisePeriod_le (p : Psg) : p.noisePeriod ≤ 32 :=
  (BitVec.isLt _).le

theorem envPeriod_le (p : Psg) : p.envPeriod ≤ 65536 :=
  (BitVec.isLt _).le

theorem toneStep_cnt_le {period : Nat} (hperiod : period ≤ 4096) (t : Tone) : (t.step period).cnt ≤ 4096 := by
  unfold Tone.step
  split
  · exact Nat.zero_le _
  · dsimp only
    omega

/-- The shift register never empties: the one word that shifts to 0 is 1, whose feedback bit is set (R223). -/
theorem lfsrStep_ne_zero {r : BitVec 17} (hr : r ≠ 0) : lfsrStep r ≠ 0 := by
  intro hzero
  obtain ⟨hshift, -⟩ := BitVec.or_eq_zero_iff.1 hzero
  have hone : r = 1 := by bv_omega
  subst hone
  exact absurd hzero (by decide)

theorem envPos_next_le {pos : Nat} (hpos : pos ≤ 95) : (if pos = 95 then 32 else pos + 1) ≤ 95 := by
  split <;> omega

theorem PsgOk.tick {p : Psg} (h : PsgOk p) : PsgOk p.tick := by
  rw [tick_eq]
  refine ⟨h.masked, fun v => ?_, ?_, ?_, restart_or_succ_le (envPeriod_le p), ?_, h.host, h.resAcc, h.dcForm,
    h.dcSlots, h.dcSum, h.dcIdx⟩ <;> dsimp only
  · rw [three_get_build]
    exact toneStep_cnt_le (tonePeriod_le p v) _
  · exact ite_le_of_le h.noiseCnt (restart_or_succ_le (noisePeriod_le p))
  · split
    · exact lfsrStep_ne_zero h.lfsr
    · exact h.lfsr
  · exact ite_le_of_le (envPos_next_le h.envPos) h.envPos

theorem PsgOk.tickN : ∀ (n : Nat) {p : Psg}, PsgOk p → PsgOk (Psg.tickN n p)
  | 0, _, h => h
  | n + 1, _, h => tickN n h.tick

theorem PsgOk.resample {p : Psg} (h : PsgOk p) : PsgOk p.resample := by
  have hticks := h.tickN ((p.resAcc + p.clk8) / p.host)
  obtain ⟨-, -, -, -, hhost, -⟩ := tickN_frame ((p.resAcc + p.clk8) / p.host) p
  have hacc : (p.resAcc + p.clk8) % p.host < p.host := Nat.mod_lt _ h.host
  exact ⟨hticks.masked, hticks.tones, hticks.noiseCnt, hticks.lfsr, hticks.envCnt, hticks.envPos, hticks.host,
    hacc.trans_eq hhost.symm, hticks.dcForm, hticks.dcSlots, hticks.dcSum, hticks.dcIdx⟩

@[simp] theorem dcTotal_cons (c : Nat × Nat) (b : List (Nat × Nat)) : dcTotal (c :: b) = c.2 + dcTotal b := by
  simp [dcTotal]

/-- Setting a slot changes the buffer's sum by the new value less the old one (R265). -/
theorem dcTotal_sparseSet : ∀ (b : List (Nat × Nat)) (lo j v : Nat), sparseWfFrom 0 lo b = true →
    dcTotal (sparseSet 0 b j v) + sparseGet 0 b j = dcTotal b + v
  | [], _, j, v, _ => by
    by_cases hv : v = 0 <;> simp [sparseSet, sparseGet, dcTotal, hv]
  | (k, w) :: t, lo, j, v, hform => by
    have htail : sparseWfFrom 0 (k + 1) t = true := by
      simp only [sparseWfFrom, Bool.and_eq_true] at hform
      exact hform.2
    unfold sparseSet sparseGet
    rcases lt_trichotomy j k with hlt | heq | hgt
    · have hunset : sparseGet 0 t j = 0 := sparseGet_of_lt 0 t (k + 1) j htail (by omega)
      rw [if_pos hlt, if_neg hlt.ne', hunset]
      split <;> simp only [dcTotal_cons] <;> omega
    · subst heq
      rw [if_neg (lt_irrefl j), if_pos rfl, if_pos rfl]
      split <;> simp only [dcTotal_cons] <;> omega
    · have ih := dcTotal_sparseSet t (k + 1) j v htail
      rw [if_neg hgt.not_gt, if_neg hgt.ne', if_neg hgt.ne]
      simp only [dcTotal_cons]
      omega

theorem sparseGet_le_dcTotal {b : List (Nat × Nat)} (hform : sparseWfFrom 0 0 b = true) (j : Nat) :
    sparseGet 0 b j ≤ dcTotal b := by
  have := dcTotal_sparseSet b 0 j 0 hform
  omega

theorem PsgOk.dcFilter {p : Psg} (h : PsgOk p) {raw : Nat} (hraw : raw ≤ 3 * 65535) : PsgOk (p.dcFilter raw).1 := by
  have hsum : p.dcSum - sparseGet 0 p.dcBuf p.dcIdx + raw = dcTotal (sparseSet 0 p.dcBuf p.dcIdx raw) := by
    have hset := dcTotal_sparseSet p.dcBuf 0 p.dcIdx raw h.dcForm
    have hslot := sparseGet_le_dcTotal h.dcForm p.dcIdx
    rw [h.dcSum]
    omega
  have hslots : ∀ c ∈ sparseSet 0 p.dcBuf p.dcIdx raw, c.1 < Config.dcLen ∧ c.2 ≤ 3 * 65535 := by
    intro c hc
    rcases mem_sparseSet 0 _ _ _ c hc with hold | rfl
    · exact h.dcSlots c hold
    · exact ⟨h.dcIdx, hraw⟩
  exact ⟨h.masked, h.tones, h.noiseCnt, h.lfsr, h.envCnt, h.envPos, h.host, h.resAcc,
    sparseSet_wf 0 p.dcBuf 0 p.dcIdx raw h.dcForm (Nat.zero_le _), hslots, hsum, Nat.mod_lt _ one_le_dcLen⟩

theorem PsgOk.sample {p : Psg} (h : PsgOk p) : PsgOk p.sample.1 :=
  h.resample.dcFilter (rawSum_le p.resample)

theorem psgOk_psgReset {rate : Nat} (clock : Nat) (hrate : 1 ≤ rate) : PsgOk (psgReset rate clock) where
  masked n := by simp [Psg.reg, psgReset]
  tones v := by simp [psgReset]
  noiseCnt := Nat.zero_le _
  lfsr := show (1 : BitVec 17) ≠ 0 by decide
  envCnt := Nat.zero_le _
  envPos := Nat.zero_le _
  host := hrate
  resAcc := hrate
  dcForm := rfl
  dcSlots _ hc := absurd hc List.not_mem_nil
  dcSum := rfl
  dcIdx := one_le_dcLen

theorem psgInvariant_psgOk : PsgInvariant PsgOk where
  reset _ clock hrate := psgOk_psgReset clock hrate
  select _ v h := h.select v
  writeReg _ n v h := h.writeReg n v
  tick _ h := h.tick
  sample _ h := h.sample

/-- Settles O29: ticks keep the generators below their periods' bounds and the shift register alive, a sample keeps the
ring buffer's sum, and register stores are masked. -/
theorem stepKeepsTheSoundChipSound : Obligations.StepKeepsTheSoundChipSound := by
  intro s t hstep hs
  have inv := PartInvariants.mk ramInvariant_true psgInvariant_psgOk mfpInvariant_true dmaInvariant_true
  obtain ⟨-, ht, -, -⟩ := inv.step hstep ⟨trivial, hs, trivial, trivial⟩
  exact ht

/-! The views of the registers. -/

/-- Two fields side by side, as a number. -/
theorem toNat_append_eq {m n : Nat} (x : BitVec m) (y : BitVec n) : (x ++ y).toNat = x.toNat * 2 ^ n + y.toNat := by
  rw [BitVec.toNat_append, ← Nat.shiftLeft_add_eq_or_of_lt y.isLt, Nat.shiftLeft_eq]

/-- The low bits of a word, as a number. -/
theorem toNat_extractLsb'_zero {w : Nat} (len : Nat) (x : BitVec w) :
    (x.extractLsb' 0 len).toNat = x.toNat % 2 ^ len := by
  rw [BitVec.extractLsb'_toNat, Nat.shiftRight_zero]

theorem tonePeriod_eq (p : Psg) (v : Voice) :
    p.tonePeriod v = (p.reg (coarseReg v)).toNat % 16 * 256 + (p.reg (fineReg v)).toNat := by
  rw [Psg.tonePeriod, toNat_append_eq, toNat_extractLsb'_zero]
  rfl

/-- Settles O20: each period is two fields side by side, or the low bits of one register. -/
theorem periodsComeFromRegisters : Obligations.PeriodsComeFromRegisters := fun p =>
  ⟨tonePeriod_eq p .A, tonePeriod_eq p .B, tonePeriod_eq p .C, toNat_extractLsb'_zero 5 (p.reg 6),
    toNat_append_eq (p.reg 12) (p.reg 11), toNat_extractLsb'_zero 4 (p.reg 13)⟩

/-- R31: the control values of Timers C and D have three bits. -/
theorem ctrl_C_toNat (m : Mfp) : (m.ctrl .C).toNat = m.tcdcr.toNat / 16 % 8 := by
  rw [Mfp.ctrl, toNat_append_eq, BitVec.extractLsb'_toNat, Nat.shiftRight_eq_div_pow]
  exact Nat.zero_add _

theorem ctrl_D_toNat (m : Mfp) : (m.ctrl .D).toNat = m.tcdcr.toNat % 8 := by
  rw [Mfp.ctrl, toNat_append_eq, toNat_extractLsb'_zero]
  exact Nat.zero_add _

/-- R32: event mode is bit 3 of the control value, so a value of 8 or more. -/
theorem eventMode_iff (m : Mfp) (t : TimerId) : m.eventMode t = true ↔ 8 ≤ (m.ctrl t).toNat := by
  rw [Mfp.eventMode]
  generalize m.ctrl t = c
  revert c
  decide

theorem stopped_iff (m : Mfp) (t : TimerId) : m.stopped t = true ↔ (m.ctrl t).toNat = 0 := by
  rw [Mfp.stopped]
  generalize m.ctrl t = c
  revert c
  decide

/-- R32: delay mode is a control value of 1 to 7. -/
theorem delay_iff (m : Mfp) (t : TimerId) :
    m.delay t = true ↔ 1 ≤ (m.ctrl t).toNat ∧ (m.ctrl t).toNat ≤ 7 := by
  rw [Mfp.delay, Mfp.eventMode]
  generalize m.ctrl t = c
  revert c
  decide

theorem counting_iff (m : Mfp) (t : TimerId) : m.counting t = true ↔ m.en t = true ∧ m.delay t = true :=
  Bool.and_eq_true_iff

/-- R32: the prescaler is chosen by the low three bits of the control value. -/
theorem pre_eq (m : Mfp) (t : TimerId) :
    m.pre t = [0, 4, 10, 16, 50, 64, 100, 200].getD ((m.ctrl t).toNat % 8) 0 := by
  rw [Mfp.pre]
  generalize m.ctrl t = c
  revert c
  decide

/-- Settles O30: the enable and mask bits as they are read, the control values as numbers, and each mode by what it says
of the four-bit control value. -/
theorem timerViews : Obligations.TimerViews := fun m =>
  ⟨⟨rfl, rfl, rfl, rfl, rfl⟩, ⟨rfl, rfl, rfl, rfl, rfl⟩,
    ⟨toNat_extractLsb'_zero 4 m.tacr, toNat_extractLsb'_zero 4 m.tbcr, ctrl_C_toNat m, ctrl_D_toNat m, rfl⟩,
    fun t => ⟨eventMode_iff m t, pre_eq m t, stopped_iff m t, delay_iff m t, counting_iff m t⟩⟩

end Sys2Proof.Machine

/-! PROOFS of the family 20_memory: byte transactions through the decoder, the RAM, open bus, halfwords and longwords,
and what a read or a repeated write can change. Every statement comes down to what a bus access does in one region. -/

namespace Sys2Proof.Machine

open Sys2Proof.Stated

/-! Byte keys through the step. -/

/-- The address bits of a byte key (R100). -/
theorem extractLsb'_busKey (x : BitVec 2) (a : Addr) : (x ++ a).extractLsb' 0 24 = a :=
  BitVec.extractLsb'_append_eq_right

/-- The bits W and S of a byte key (R100). -/
theorem getLsbD_busKey (x : BitVec 2) (a : Addr) (i : Nat) : (x ++ a).getLsbD (24 + i) = x.getLsbD i := by
  rw [BitVec.getLsbD_append, if_neg (by omega), Nat.add_sub_cancel_left]

theorem decodeBus8_ok {k : BitVec 26} (hS : k.getLsbD 24 = false) (d : Byte) : ∃ i, decodeBus8 k d = .ok i :=
  ⟨_, if_neg (ne_true_of_eq_false hS)⟩

/-- A key with S = 0, decoded and run, is the bus access of its address, in the direction of its bit W (R74, R75). -/
theorem step_busKey {s : State} (hvalid : s.sys.invalid = false) {x : BitVec 2} (hS : x.getLsbD 0 = false) (a : Addr)
    (d : Byte) : step (putPacket s ⟨.bus8, x ++ a, d, 0, 0⟩) = .next (busAccess (x.getLsbD 1) a d s) := by
  obtain ⟨i, hi⟩ := decodeBus8_ok ((getLsbD_busKey x a 0).trans hS) d
  have hdecode : decode ⟨.bus8, x ++ a, d, 0, 0⟩ = .ok i := hi
  rw [step_putPacket hvalid, runPacket, hdecode]
  dsimp only
  rw [exec_of_decodeBus8 hi, extractLsb'_busKey, getLsbD_busKey x a 1]

/-- Settles O9: a byte key has S = 0, and its bit W chooses between the two bus accesses. -/
theorem byteTransactionsAreBusAccesses : Obligations.ByteTransactionsAreBusAccesses := fun _ a d hvalid =>
  ⟨step_busKey (x := 0b00#2) hvalid rfl a d, step_busKey (x := 0b10#2) hvalid rfl a d⟩

/-! Bus accesses by region. -/

theorem region_of_lt_ramSize {a : Addr} (ha : a.toNat < Config.ramSize) : region a = .ram :=
  if_pos ha

theorem busRead8_of_ram {a : Addr} (hregion : region a = .ram) (s : State) :
    busRead8 s a = (s, memRead s.ram a.toNat) := by
  rw [busRead8, hregion]

theorem busWrite8_of_ram {a : Addr} (hregion : region a = .ram) (s : State) (v : Byte) :
    busWrite8 s a v = { s with ram := memWrite s.ram a.toNat v } := by
  rw [busWrite8, hregion]

theorem busRead8_of_openBus {a : Addr} (hregion : region a = .openBus) (s : State) : busRead8 s a = (s, 0xFF) := by
  rw [busRead8, hregion]

/-! The RAM. -/

theorem memRead_of_ramSize_le {b : Nat} (hb : Config.ramSize ≤ b) (m : List Host.Cell) : memRead m b = 0xFF :=
  if_neg hb.not_gt

theorem memWrite_of_ramSize_le {b : Nat} (hb : Config.ramSize ≤ b) (m : List Host.Cell) (v : Byte) :
    memWrite m b v = m :=
  if_neg hb.not_gt

/-- A store inside the RAM is read back at its address, and every other byte is as before. -/
theorem memRead_memWrite_of_lt {m : List Host.Cell} (h : Memory.wf m = true) {a : Nat} (ha : a < Config.ramSize)
    (v : Byte) (b : Nat) : memRead (memWrite m a v) b = if b = a then v else memRead m b := by
  rw [memRead_memWrite h]
  simp only [ha, and_true]

/-- Settles O10: the RAM rows are one load and one store, and both make the range check. -/
theorem ramReadAndWrite : Obligations.RamReadAndWrite := by
  refine ⟨fun s a d hram ha => ⟨rfl, _, rfl, rfl, ?stored⟩, fun m b v hb => ⟨?beyondRead, ?beyondWrite⟩⟩
  case stored => exact memRead_memWrite_of_lt hram ha d
  case beyondRead => exact memRead_of_ramSize_le hb m
  case beyondWrite => exact memWrite_of_ramSize_le hb m v

/-- Settles O11: each byte of open bus is read as all bits set, one after the other in a halfword. -/
theorem openBus : Obligations.OpenBus := by
  refine fun s a d hregion => ⟨rfl, rfl, fun hnext => ?halfword⟩
  case halfword =>
    have hjoined : (0xFF : Byte) ++ (0xFF : Byte) = (0xFFFF : BitVec 16) := by decide
    rw [busRead16, busRead8_of_openBus hregion, busRead8_of_openBus hnext, hjoined]

/-! Halfwords in the RAM. -/

/-- The address after one inside the RAM does not wrap around. -/
theorem toNat_succ_of_ram {a : Addr} (ha : a.toNat + 1 < Config.ramSize) : (a + 1).toNat = a.toNat + 1 := by
  have hsize : Config.ramSize = 4194304 := rfl
  bv_omega

theorem region_succ_of_ram {a : Addr} (ha : a.toNat + 1 < Config.ramSize) : region (a + 1) = .ram :=
  region_of_lt_ramSize ((toNat_succ_of_ram ha).trans_lt ha)

theorem busWrite16_of_ram {a : Addr} (ha : a.toNat + 1 < Config.ramSize) (s : State) (v : BitVec 16) :
    busWrite16 s a v =
      { s with ram := memWrite (memWrite s.ram a.toNat (v.extractLsb' 8 8)) (a.toNat + 1) (v.extractLsb' 0 8) } := by
  rw [busWrite16, busWrite8_of_ram (region_of_lt_ramSize (Nat.lt_of_succ_lt ha)),
    busWrite8_of_ram (region_succ_of_ram ha), toNat_succ_of_ram ha]

theorem busRead16_of_ram {a : Addr} (ha : a.toNat + 1 < Config.ramSize) (s : State) :
    busRead16 s a = (s, memRead s.ram a.toNat ++ memRead s.ram (a.toNat + 1)) := by
  rw [busRead16, busRead8_of_ram (region_of_lt_ramSize (Nat.lt_of_succ_lt ha)),
    busRead8_of_ram (region_succ_of_ram ha), toNat_succ_of_ram ha]

/-- What the RAM holds after two bytes are stored one after the other. -/
theorem memRead_memWrite_pair {m : List Host.Cell} (h : Memory.wf m = true) {a : Nat} (ha : a + 1 < Config.ramSize)
    (x y : Byte) (b : Nat) : memRead (memWrite (memWrite m a x) (a + 1) y) b =
      if b = a then x else if b = a + 1 then y else memRead m b := by
  rw [memRead_memWrite_of_lt (memWrite_wf h a x) ha, memRead_memWrite_of_lt h (Nat.lt_of_succ_lt ha)]
  split
  next hb => rw [if_neg (by omega)]
  next => rfl

/-- Where a halfword written to RAM lies, and what is left alone: the high byte is at the lower address (R79). -/
theorem memRead_busWrite16 {s : State} (hram : RamOk s) {a : Addr} (ha : a.toNat + 1 < Config.ramSize)
    (v : BitVec 16) (b : Nat) : memRead (busWrite16 s a v).ram b =
      if b = a.toNat then v.extractLsb' 8 8 else if b = a.toNat + 1 then v.extractLsb' 0 8 else memRead s.ram b := by
  rw [busWrite16_of_ram ha]
  exact memRead_memWrite_pair hram ha _ _ b

@[simp] theorem busWrite16_sys (s : State) (a : Addr) (v : BitVec 16) : (busWrite16 s a v).sys = s.sys := by
  simp [busWrite16]

@[simp] theorem busWrite16_env (s : State) (a : Addr) (v : BitVec 16) : (busWrite16 s a v).env = s.env := by
  simp [busWrite16]

/-- A halfword is its high byte and its low byte side by side. -/
theorem highByte_append_lowByte (v : BitVec 16) : v.extractLsb' 8 8 ++ v.extractLsb' 0 8 = v :=
  BitVec.extractLsb'_append_extractLsb' (w := 8) (len := 8)

/-- Where the RAM holds a halfword's bytes, high byte first, a read gives the halfword. -/
theorem busRead16_of_bytes {s : State} {a : Addr} (ha : a.toNat + 1 < Config.ramSize) {v : BitVec 16}
    (hhigh : memRead s.ram a.toNat = v.extractLsb' 8 8) (hlow : memRead s.ram (a.toNat + 1) = v.extractLsb' 0 8) :
    busRead16 s a = (s, v) := by
  rw [busRead16_of_ram ha, hhigh, hlow, highByte_append_lowByte]

/-- In a valid session a pseudo-instruction at the head of the queue is run whole (log 24). -/
theorem step_pseudo {s : State} {p : Pseudo} {q : List Request} (hvalid : s.sys.invalid = false)
    (hqueue : s.env.queue = .pseudo p :: q) : step s = .next (runPseudo (dequeued s q) p) := by
  rw [step_of_queue_cons hvalid hqueue, runRequest]

/-- Settles O12: the write stores the high byte first, and the read joins the two bytes in the same order. -/
theorem halfwordsAreBigEndian : Obligations.HalfwordsAreBigEndian := by
  intro s a v q hram hvalid ha hqueue
  have hwrite : step s = .next (busWrite16 (dequeued s (.pseudo (.r16 a) :: q)) a v) := step_pseudo hvalid hqueue
  have hstored := memRead_busWrite16 (s := dequeued s (.pseudo (.r16 a) :: q)) hram ha v
  have hsys := busWrite16_sys (dequeued s (.pseudo (.r16 a) :: q)) a v
  have henv := busWrite16_env (dequeued s (.pseudo (.r16 a) :: q)) a v
  generalize busWrite16 (dequeued s (.pseudo (.r16 a) :: q)) a v = t at hwrite hstored hsys henv
  have hhigh : memRead t.ram a.toNat = v.extractLsb' 8 8 := by rw [hstored, if_pos rfl]
  have hlow : memRead t.ram (a.toNat + 1) = v.extractLsb' 0 8 := by
    rw [hstored, if_neg (Nat.succ_ne_self _), if_pos rfl]
  refine ⟨t, hwrite, hstored, ?readBack⟩
  case readBack =>
    rw [step_pseudo ((congrArg Sys.invalid hsys).trans hvalid) (congrArg Env.queue henv), runPseudo,
      busRead16_of_bytes (s := dequeued t q) ha hhigh hlow]
    rfl

/-! Halfwords and longwords as byte transactions. -/

/-- Four bytes joined in pairs are the four bytes joined in order. -/
theorem append_pairs (x y z u : Byte) : (x ++ y) ++ (z ++ u) = x ++ y ++ z ++ u :=
  BitVec.append_assoc'.trans (BitVec.cast_eq _ _)

/-- The last of four consecutive addresses, from the lower half's. -/
theorem addr_add_two_add_one (a : Addr) : a + 2 + 1 = a + 3 :=
  BitVec.add_assoc a 2 1

/-- A byte of a half of a word is a byte of the word. -/
theorem extractLsb'_half {i len half : Nat} (h : i + len ≤ half) (start : Nat) (x : BitVec 32) :
    (x.extractLsb' start half).extractLsb' i len = x.extractLsb' (start + i) len := by
  ext k hk
  have hinside : i + k < half := by omega
  simp [hinside, Nat.add_assoc]

theorem runPseudo_w32 (s : State) (a : Addr) (w : BitVec 32) : runPseudo s (.w32 a w) =
    (transacts s [.write a (w.extractLsb' 24 8), .write (a + 1) (w.extractLsb' 16 8),
      .write (a + 2) (w.extractLsb' 8 8), .write (a + 3) (w.extractLsb' 0 8)]).1 := by
  rw [runPseudo, busWrite32, busWrite16, busWrite16, addr_add_two_add_one]
  simp only [extractLsb'_half (by decide : 8 + 8 ≤ 16), extractLsb'_half (by decide : 0 + 8 ≤ 16)]
  rfl

/-- Settles O13: the halves' bytes are the word's bytes, at the addresses one after another. -/
theorem wideAccessesAreByteAccesses : Obligations.WideAccessesAreByteAccesses := by
  intro s a v w reg d
  refine ⟨?w16, runPseudo_w32 s a w, ?psgw, ⟨_, _, rfl, ?r16⟩, ⟨_, _, _, _, rfl, ?r32⟩, fun p q => step_pseudo⟩
  case r32 =>
    rw [runPseudo, busRead32, ← append_pairs, ← addr_add_two_add_one]
    rfl
  all_goals rfl

/-! The side effect of a read. -/

theorem toNat_offsetOf (a : Addr) : (offsetOf a).toNat = a.toNat % 256 :=
  toNat_extractLsb'_zero 8 a

/-- The DMA-PCM window is an interval that no other region takes from (R73). -/
theorem region_eq_dma_iff (a : Addr) :
    region a = .dma ↔ dmaBase ≤ a.toNat ∧ a.toNat ≤ dmaBase + 0x25 := by
  unfold region Config.ramSize psgBase dmaBase
  split_ifs <;> simp only [true_iff, false_iff] <;> omega

/-- The register of the DMA-PCM window at an offset is at one address: the window has no mirrors (R78). -/
theorem dma_offset_iff (a : Addr) {off : Nat} (hoff : off ≤ 0x25) :
    region a = .dma ∧ (offsetOf a).toNat = off ↔ a.toNat = dmaBase + off := by
  rw [region_eq_dma_iff, toNat_offsetOf, dmaBase]
  omega

/-- Of all byte reads, the one of MW_MASK_HI changes the channel (R82). -/
theorem busRead8_state (s : State) (a : Addr) : (busRead8 s a).1 =
    if region a = .dma ∧ (offsetOf a).toNat = 0x24 then { s with dma := s.dma.shiftOnce } else s := by
  rw [busRead8]
  cases region a
  case dma =>
    dsimp only
    rw [Dma.afterRead8, apply_ite (fun d => ({ s with dma := d } : State))]
    simp only [true_and]
  all_goals rfl

/-- Settles O14: the register MW_MASK_HI is at one address. -/
theorem oneReadHasASideEffect : Obligations.OneReadHasASideEffect := by
  intro s a
  have haddr : a = 0xFF8924 ↔ a.toNat = dmaBase + 0x24 := BitVec.toNat_inj.symm
  rw [busRead8_state]
  simp only [dma_offset_iff a (show 0x24 ≤ 0x25 by decide), haddr]
  rfl

/-! Repeated writes. -/

/-- A default stored below all keys of a sparse array is not listed. -/
theorem sparseSet_default_of_lt {α : Type} [DecidableEq α] (z : α) {l : List (Nat × α)} {lo a : Nat}
    (hform : sparseWfFrom z lo l = true) (ha : a < lo) : sparseSet z l a z = l := by
  cases l with
  | nil => exact if_pos rfl
  | cons c t =>
    have hlo : lo ≤ c.1 := by
      simp only [sparseWfFrom, Bool.and_eq_true, decide_eq_true_eq] at hform
      exact hform.1.1
    rw [sparseSet, if_pos (by omega), if_pos rfl]

/-- Setting an entry of a sparse array to the same value again changes nothing. -/
theorem sparseSet_sparseSet_self {α : Type} [DecidableEq α] (z : α) :
    ∀ (l : List (Nat × α)) (lo a : Nat) (v : α), sparseWfFrom z lo l = true →
      sparseSet z (sparseSet z l a v) a v = sparseSet z l a v
  | [], _, a, v, _ => by
    by_cases hv : v = z <;> simp [sparseSet, hv]
  | (k, w) :: t, lo, a, v, hform => by
    have htail : sparseWfFrom z (k + 1) t = true := by
      simp only [sparseWfFrom, Bool.and_eq_true] at hform
      exact hform.2
    rcases lt_trichotomy a k with hlt | rfl | hgt
    · by_cases hv : v = z <;> simp [sparseSet, hlt, hv]
    · by_cases hv : v = z
      · simpa [sparseSet, hv] using sparseSet_default_of_lt z htail (Nat.lt_succ_self a)
      · simp [sparseSet, hv]
    · have ih := sparseSet_sparseSet_self z t (k + 1) a v htail
      simp [sparseSet, hgt.not_gt, hgt.ne', ih]

theorem memWrite_memWrite_self {m : List Host.Cell} (h : Memory.wf m = true) (a : Nat) (v : Byte) :
    memWrite (memWrite m a v) a v = memWrite m a v := by
  unfold memWrite
  split
  · exact sparseSet_sparseSet_self ramDefault m 0 a v (wf_sparse h)
  · rfl

theorem writeReg_writeReg_self (p : Psg) (n : Fin 16) (v : Byte) :
    (p.writeReg n v).writeReg n v = p.writeReg n v := by
  rw [writeReg_eq, writeReg_eq]
  simp only [Vector.set_set]
  split <;> rfl

theorem psgWrite8_write8_self (p : Psg) (off v : Byte) : (p.write8 off v).write8 off v = p.write8 off v := by
  have hsel : (p.writeReg p.selReg v).selReg = p.selReg := by rw [writeReg_eq]; rfl
  unfold Psg.write8
  split
  · rfl
  · split
    · rw [hsel, writeReg_writeReg_self]
    · rfl

/-- Play control that is written as it is leaves the channel alone: the play bit does not rise (R410). -/
theorem writeCtrl_eq_self {d : Dma} {v : Byte} (hctrl : v &&& 0x03 = d.ctrl) : d.writeCtrl v = d := by
  have hsame : ({ d with ctrl := v &&& 0x03 } : Dma) = d := by rw [hctrl]
  have hrise : (!d.play && d.play) = false := Bool.not_and_self _
  rw [Dma.writeCtrl, hsame, hrise]
  rfl

theorem writeCtrl_ctrl (d : Dma) (v : Byte) : (d.writeCtrl v).ctrl = v &&& 0x03 := by
  unfold Dma.writeCtrl
  dsimp only
  split <;> rfl

/-- A transfer from the same data and mask sends the same command (R440). -/
theorem transfer_transfer (d : Dma) : d.transfer.transfer = d.transfer := by
  have hvolume : ∀ o : Option Nat, o.getD (o.getD d.masterVol) = o.getD d.masterVol := by
    rintro (_ | _) <;> rfl
  exact congrArg (fun n => { d.transfer with masterVol := n }) (hvolume _)

theorem dmaWrite8_write8_self (d : Dma) (off v : Byte) : (d.write8 off v).write8 off v = d.write8 off v := by
  unfold Dma.write8
  generalize off.toNat = n
  split
  case h_1 => exact writeCtrl_eq_self (writeCtrl_ctrl d v).symm
  case h_13 => exact transfer_transfer { d with mwDataLo := v }
  case h_16 => simp [*]
  all_goals rfl

/-- Timers restart when their enable bit rises (R320): none does where nothing changed. -/
theorem restartEnabled_self (m : Mfp) : m.restartEnabled m = m := by
  have htimers : (m.restartEnabled m).timers = m.timers := by
    refine five_ext _ _ fun t => ?_
    rw [restartEnabled_get, Bool.not_and_self]
    rfl
  exact congrArg (fun ts => { m with timers := ts }) htimers

/-- Timers lose their fraction when they begin to count (R321): none does where nothing changed. -/
theorem startControlled_self (m : Mfp) (ts : List TimerId) : m.startControlled m ts = m := by
  have htimers : (m.startControlled m ts).timers = m.timers := by
    refine five_ext _ _ fun t => ?_
    rw [startControlled_get, Bool.and_assoc, Bool.not_and_self, Bool.and_false]
    rfl
  exact congrArg (fun ts => { m with timers := ts }) htimers

theorem load_load_self (x : Timer) (v : Byte) (stopped : Bool) :
    (x.load v stopped).load v stopped = x.load v stopped := by
  cases stopped <;> rfl

theorem writeData_writeData_self (m : Mfp) (t : TimerId) (v : Byte) :
    (m.writeData t v).writeData t v = m.writeData t v := by
  have hstopped : (m.writeData t v).stopped t = m.stopped t := by cases t <;> rfl
  have htimers : ((m.writeData t v).writeData t v).timers = (m.writeData t v).timers := by
    refine five_ext _ _ fun u => ?_
    rw [writeData_get, hstopped]
    split
    next hu => subst hu; simp only [writeData_get, if_true, load_load_self]
    next => rfl
  exact congrArg (fun ts => { m with timers := ts }) htimers

theorem mfpWrite8_write8_self (m : Mfp) (off v : Byte) : (m.write8 off v).write8 off v = m.write8 off v := by
  unfold Mfp.write8
  generalize off.toNat = n
  split
  case h_4 | h_5 => exact restartEnabled_self _
  case h_13 | h_14 | h_15 => exact startControlled_self _ _
  case h_16 | h_17 | h_18 | h_19 => exact writeData_writeData_self m _ v
  case h_20 => simp [*]
  all_goals rfl

/-- A byte written twice with nothing between the writes is as good as written once. This holds at every address, R82's
two exceptions among them: the envelope's restart and the microwire transfer differ only once time has passed. -/
theorem busWrite8_busWrite8_self {s : State} (hram : RamOk s) (a : Addr) (v : Byte) :
    busWrite8 (busWrite8 s a v) a v = busWrite8 s a v := by
  unfold busWrite8
  cases region a
  case ram => exact congrArg (fun m => { s with ram := m }) (memWrite_memWrite_self hram a.toNat v)
  case psg => exact congrArg (fun p => { s with psg := p }) (psgWrite8_write8_self s.psg _ v)
  case dma => exact congrArg (fun d => { s with dma := d }) (dmaWrite8_write8_self s.dma _ v)
  case mfp => exact congrArg (fun m => { s with mfp := m }) (mfpWrite8_write8_self s.mfp _ v)
  case openBus => rfl

/-- Settles O15: RAM by its canonical form, each device by its own writes; the premises on the two exceptions are not
needed for writes with nothing between them. -/
theorem repeatedWritesAreNoOps : Obligations.RepeatedWritesAreNoOps :=
  fun _ a v hram _ _ => busWrite8_busWrite8_self hram a v

end Sys2Proof.Machine

/-! PROOFS of the family 30_encoding: the decoder and the encoder undo each other, and the decoder agrees with the opcode
table. A key with S = 0 is `busKey w a`, its operation `busInstr w a d`; from there each statement is a case split over
the rows. -/

namespace Sys2Proof.Machine

open Sys2Proof.Stated

/-! Byte keys: the direction and the address. -/

/-- The key of a byte transaction: `W`, S = 0, `A` (R100). -/
def busKey (w : Bool) (a : Addr) : BitVec 26 := (bif w then 0b10#2 else 0b00#2) ++ a

@[simp] theorem key_readAt (a : Addr) : (readAt a).key = busKey false a := rfl
@[simp] theorem key_writeAt (a : Addr) (d : Byte) : (writeAt a d).key = busKey true a := rfl
@[simp] theorem fmt_readAt (a : Addr) : (readAt a).fmt = .bus8 := rfl
@[simp] theorem fmt_writeAt (a : Addr) (d : Byte) : (writeAt a d).fmt = .bus8 := rfl
@[simp] theorem fmt_psgRegPacket (n : Nat) (d : Byte) : (psgRegPacket n d).fmt = .psgreg := rfl
@[simp] theorem fmt_internalPacket (n rate clock : Nat) : (internalPacket n rate clock).fmt = .internal := rfl

@[simp] theorem addr_busKey (w : Bool) (a : Addr) : (busKey w a).extractLsb' 0 24 = a :=
  extractLsb'_busKey _ a

/-- Every key with S = 0 is the key of a byte transaction (R100). -/
theorem eq_busKey {k : BitVec 26} (hS : k.getLsbD 24 = false) : k = busKey (k.getLsbD 25) (k.extractLsb' 0 24) := by
  have htop : ∀ x : BitVec 2, x.getLsbD 0 = false → x = bif x.getLsbD 1 then 0b10#2 else 0b00#2 := by decide
  have hbit (i : Nat) (hi : i < 2) : (k.extractLsb' 24 2).getLsbD i = k.getLsbD (24 + i) := by
    simp [hi]
  calc k = k.extractLsb' 24 2 ++ k.extractLsb' 0 24 :=
        (BitVec.extractLsb'_append_extractLsb' (w := 2) (len := 24)).symm
    _ = busKey (k.getLsbD 25) (k.extractLsb' 0 24) := by
        rw [busKey, htop (k.extractLsb' 24 2) ((hbit 0 (by omega)).trans hS), hbit 1 (by omega)]

/-- The operation of a byte transaction, by the region of its address (R73, R101). -/
def busInstr (w : Bool) (a : Addr) (d : Byte) : Instr :=
  match region a with
  | .ram => bif w then .ramW8 a d else .ramR8 a
  | .psg => psgRow w a d
  | .dma => dmaRow w (offsetOf a) d
  | .mfp => mfpRow w (offsetOf a) d
  | .openBus => bif w then .openW8 a d else .openR8 a

theorem decodeBus8_busKey (w : Bool) (a : Addr) (d : Byte) : decodeBus8 (busKey w a) d = .ok (busInstr w a d) := by
  have hS : (busKey w a).getLsbD 24 = false := (getLsbD_busKey _ a 0).trans (by cases w <;> rfl)
  have hW : (busKey w a).getLsbD 25 = w := (getLsbD_busKey _ a 1).trans (by cases w <;> rfl)
  simp only [decodeBus8, hS, hW, addr_busKey]
  rfl

@[simp] theorem decode_readAt (a : Addr) : decode (readAt a) = .ok (busInstr false a 0) := decodeBus8_busKey false a 0

@[simp] theorem decode_writeAt (a : Addr) (d : Byte) : decode (writeAt a d) = .ok (busInstr true a d) :=
  decodeBus8_busKey true a d

@[simp] theorem decode_psgRegPacket (n : Nat) (d : Byte) :
    decode (psgRegPacket n d) = decodePsgReg (BitVec.ofNat 26 n) d := rfl

@[simp] theorem decode_internalPacket (n rate clock : Nat) :
    decode (internalPacket n rate clock) = decodeInternal (BitVec.ofNat 26 n) rate clock := rfl

/-! The regions are intervals, and an address of a window is its offset in it. -/

theorem region_eq_ram_iff (a : Addr) : region a = .ram ↔ a.toNat < Config.ramSize := by
  unfold region
  split_ifs <;> simp [*]

theorem region_eq_psg_iff (a : Addr) : region a = .psg ↔ psgBase ≤ a.toNat ∧ a.toNat ≤ psgBase + 0xFF := by
  unfold region Config.ramSize psgBase
  split_ifs <;> simp only [true_iff, false_iff] <;> omega

theorem region_eq_mfp_iff (a : Addr) : region a = .mfp ↔ mfpBase ≤ a.toNat ∧ a.toNat ≤ mfpBase + 0x25 := by
  unfold region Config.ramSize psgBase dmaBase mfpBase
  split_ifs <;> simp only [true_iff, false_iff] <;> omega

@[simp] theorem toNat_psgAddr (off : Byte) : (psgAddr off).toNat = psgBase + off.toNat := toNat_append_eq _ off
@[simp] theorem toNat_dmaAddr (off : Byte) : (dmaAddr off).toNat = dmaBase + off.toNat := toNat_append_eq _ off
@[simp] theorem toNat_mfpAddr (off : Byte) : (mfpAddr off).toNat = mfpBase + off.toNat := toNat_append_eq _ off

theorem region_psgAddr (off : Byte) : region (psgAddr off) = .psg := by
  rw [region_eq_psg_iff, toNat_psgAddr]
  omega

theorem region_dmaAddr {off : Byte} (hoff : off.toNat ≤ 0x25) : region (dmaAddr off) = .dma := by
  rw [region_eq_dma_iff, toNat_dmaAddr]
  omega

theorem region_mfpAddr {off : Byte} (hoff : off.toNat ≤ 0x25) : region (mfpAddr off) = .mfp := by
  rw [region_eq_mfp_iff, toNat_mfpAddr]
  omega

theorem offsetOf_dmaAddr (off : Byte) : offsetOf (dmaAddr off) = off := BitVec.extractLsb'_append_eq_right
theorem offsetOf_mfpAddr (off : Byte) : offsetOf (mfpAddr off) = off := BitVec.extractLsb'_append_eq_right

theorem eq_psgAddr {a : Addr} (hregion : region a = .psg) : a = psgAddr (offsetOf a) := by
  rw [region_eq_psg_iff, psgBase] at hregion
  apply BitVec.eq_of_toNat_eq
  rw [toNat_psgAddr, toNat_offsetOf, psgBase]
  omega

theorem eq_dmaAddr {a : Addr} (hregion : region a = .dma) : a = dmaAddr (offsetOf a) ∧ (offsetOf a).toNat ≤ 0x25 := by
  rw [region_eq_dma_iff, dmaBase] at hregion
  rw [toNat_offsetOf]
  refine ⟨BitVec.eq_of_toNat_eq ?_, by omega⟩
  rw [toNat_dmaAddr, toNat_offsetOf, dmaBase]
  omega

theorem eq_mfpAddr {a : Addr} (hregion : region a = .mfp) : a = mfpAddr (offsetOf a) ∧ (offsetOf a).toNat ≤ 0x25 := by
  rw [region_eq_mfp_iff, mfpBase] at hregion
  rw [toNat_offsetOf]
  refine ⟨BitVec.eq_of_toNat_eq ?_, by omega⟩
  rw [toNat_mfpAddr, toNat_offsetOf, mfpBase]
  omega

/-! The rows of each region. -/

theorem busInstr_of_ram {a : Addr} (hregion : region a = .ram) (w : Bool) (d : Byte) :
    busInstr w a d = bif w then .ramW8 a d else .ramR8 a := by
  rw [busInstr, hregion]

theorem busInstr_of_openBus {a : Addr} (hregion : region a = .openBus) (w : Bool) (d : Byte) :
    busInstr w a d = bif w then .openW8 a d else .openR8 a := by
  rw [busInstr, hregion]

theorem busInstr_psgAddr (w : Bool) (off d : Byte) : busInstr w (psgAddr off) d = psgRow w (psgAddr off) d := by
  rw [busInstr, region_psgAddr]

theorem busInstr_dmaAddr {off : Byte} (hoff : off.toNat ≤ 0x25) (w : Bool) (d : Byte) :
    busInstr w (dmaAddr off) d = dmaRow w off d := by
  rw [busInstr, region_dmaAddr hoff, offsetOf_dmaAddr]

theorem busInstr_mfpAddr {off : Byte} (hoff : off.toNat ≤ 0x25) (w : Bool) (d : Byte) :
    busInstr w (mfpAddr off) d = mfpRow w off d := by
  rw [busInstr, region_mfpAddr hoff, offsetOf_mfpAddr]

/-- The select port and its mirrors (R211, R212). -/
theorem busInstr_psgSel (w : Bool) (m : BitVec 6) (d : Byte) :
    busInstr w (psgAddr (m ++ 0b00#2)) d = bif w then .psgSelW8 m d else .psgSelR8 m := by
  have hbits : ∀ m : BitVec 6, (psgAddr (m ++ 0b00#2)).getLsbD 0 = false ∧
      (psgAddr (m ++ 0b00#2)).getLsbD 1 = false ∧ (psgAddr (m ++ 0b00#2)).extractLsb' 2 6 = m := by decide
  obtain ⟨h0, h1, hm⟩ := hbits m
  simp only [busInstr_psgAddr, psgRow, h0, h1, hm, Bool.false_eq_true, if_false]

/-- The data port and its mirrors (R211, R212). -/
theorem busInstr_psgData (w : Bool) (m : BitVec 6) (d : Byte) :
    busInstr w (psgAddr (m ++ 0b10#2)) d = bif w then .psgDataW8 m d else .psgDataR8 m := by
  have hbits : ∀ m : BitVec 6, (psgAddr (m ++ 0b10#2)).getLsbD 0 = false ∧
      (psgAddr (m ++ 0b10#2)).getLsbD 1 = true ∧ (psgAddr (m ++ 0b10#2)).extractLsb' 2 6 = m := by decide
  obtain ⟨h0, h1, hm⟩ := hbits m
  simp only [busInstr_psgAddr, psgRow, h0, h1, hm, Bool.false_eq_true, if_false, if_true]

/-- The odd offsets of the sound chip's window (R211, R212). -/
theorem busInstr_psgOdd (w : Bool) (m : BitVec 7) (d : Byte) :
    busInstr w (psgAddr (m ++ 1#1)) d = bif w then .psgOddW8 m d else .psgOddR8 m := by
  have hbits : ∀ m : BitVec 7, (psgAddr (m ++ 1#1)).getLsbD 0 = true ∧
      (psgAddr (m ++ 1#1)).extractLsb' 1 7 = m := by decide
  obtain ⟨h0, hm⟩ := hbits m
  simp only [busInstr_psgAddr, psgRow, h0, hm, if_true]

/-- The offsets of the sound chip's window are those of the two ports and the odd ones. -/
theorem psgOffset_cases (off : Byte) :
    (∃ m : BitVec 6, off = m ++ 0b00#2) ∨ (∃ m : BitVec 6, off = m ++ 0b10#2) ∨ ∃ m : BitVec 7, off = m ++ 1#1 := by
  have hport : off.extractLsb' 2 6 ++ off.extractLsb' 0 2 = off :=
    BitVec.extractLsb'_append_extractLsb' (w := 6) (len := 2)
  have hodd : off.extractLsb' 1 7 ++ off.extractLsb' 0 1 = off :=
    BitVec.extractLsb'_append_extractLsb' (w := 7) (len := 1)
  have hlow : ∀ b : BitVec 2, b = 0b00#2 ∨ b = 0b10#2 ∨ b.extractLsb' 0 1 = 1#1 := by decide
  have hbit : (off.extractLsb' 0 2).extractLsb' 0 1 = off.extractLsb' 0 1 := by
    simp
  rcases hlow (off.extractLsb' 0 2) with h | h | h
  · exact .inl ⟨_, by rw [← h, hport]⟩
  · exact .inr (.inl ⟨_, by rw [← h, hport]⟩)
  · exact .inr (.inr ⟨_, by rw [← h, hbit, hodd]⟩)

/-- The offsets of DMA_UNUSED lie in the window and have no register. -/
theorem dmaUnusedOffset_iff (off : Byte) :
    dmaUnusedOffset off = true ↔ off.toNat ≤ 0x25 ∧ dmaNamedOffset off = false := by
  simp [dmaUnusedOffset]

/-- An offset of the DMA-PCM window with no register has the catch-all row (R482). -/
theorem busInstr_dmaUnused {off : Byte} (hoff : dmaUnusedOffset off = true) (w : Bool) (d : Byte) :
    busInstr w (dmaAddr off) d = bif w then .dmaUnusedW8 off d else .dmaUnusedR8 off := by
  obtain ⟨hwindow, hunnamed⟩ := (dmaUnusedOffset_iff off).1 hoff
  rw [busInstr_dmaAddr hwindow, dmaRow]
  split
  case h_16 => rfl
  all_goals
    next hreg => simp [dmaNamedOffset, hreg] at hunnamed

theorem mfpEvenOffset_iff (off : Byte) : mfpEvenOffset off = true ↔ off.toNat ≤ 0x24 ∧ off.toNat % 2 = 0 := by
  simp [mfpEvenOffset, BitVec.getLsbD, Nat.testBit_zero]

/-- An even offset of the timer controller's window has the catch-all row (R390). -/
theorem busInstr_mfpEven {off : Byte} (hoff : mfpEvenOffset off = true) (w : Bool) (d : Byte) :
    busInstr w (mfpAddr off) d = bif w then .mfpEvenW8 off d else .mfpEvenR8 off := by
  obtain ⟨hwindow, heven⟩ := (mfpEvenOffset_iff off).1 hoff
  rw [busInstr_mfpAddr (by omega), mfpRow]
  split
  case h_20 => rfl
  all_goals omega

/-! Decoding what is encoded. -/

/-- Settles O2: the rows with an operand in the key by the equations of their region, the resets by the bias of their
operands (log 2); for all other rows the key is a constant, which decodes by evaluation. -/
theorem decodeInvertsEncode : Obligations.DecodeInvertsEncode := by
  intro i hwf
  cases i <;>
    simp only [encode, decode_readAt, decode_writeAt, decode_psgRegPacket, decode_internalPacket,
      busInstr_psgSel, busInstr_psgData, busInstr_psgOdd, cond_true, cond_false]
  case ramR8 | ramW8 => rw [busInstr_of_ram (beq_iff_eq.1 hwf)]; rfl
  case openR8 | openW8 => rw [busInstr_of_openBus (beq_iff_eq.1 hwf)]; rfl
  case dmaUnusedR8 | dmaUnusedW8 => rw [busInstr_dmaUnused hwf]; rfl
  case mfpEvenR8 | mfpEvenW8 => rw [busInstr_mfpEven hwf]; rfl
  case mfpTick t | mfpSignal t => cases t <;> rfl
  case sysReset rate | mfpReset rate | dmaReset rate =>
    have hrate : rate - 1 + 1 = rate := Nat.sub_add_cancel (of_decide_eq_true hwf)
    simp [decodeInternal, hrate]
  case psgReset rate clock =>
    obtain ⟨hrate, hclock⟩ : 1 ≤ rate ∧ 8 ≤ clock := by simpa [Instr.wf] using hwf
    simp [decodeInternal, Nat.sub_add_cancel hrate, Nat.sub_add_cancel hclock]
  all_goals rfl

/-! The key of what is decoded. -/

/-- An operation meets its row's constraints, and its encoding has this format and this key. -/
structure EncodesTo (i : Instr) (fmt : Format) (key : BitVec 26) : Prop where
  wf : i.wf = true
  fmt_eq : (encode i).fmt = fmt
  key_eq : (encode i).key = key

theorem ofNat_of_toNat {w n : Nat} {x : BitVec w} (h : x.toNat = n) : BitVec.ofNat w n = x := by
  rw [← h, BitVec.ofNat_toNat, BitVec.setWidth_eq]

theorem encodesTo_dmaRow {off : Byte} (hwindow : off.toNat ≤ 0x25) (w : Bool) (d : Byte) :
    EncodesTo (dmaRow w off d) .bus8 (busKey w (dmaAddr off)) := by
  cases hnamed : dmaNamedOffset off
  case false =>
    have hoff := (dmaUnusedOffset_iff off).2 ⟨hwindow, hnamed⟩
    rw [← busInstr_dmaAddr hwindow, busInstr_dmaUnused hoff]
    cases w <;> exact ⟨hoff, rfl, rfl⟩
  case true =>
    unfold dmaRow
    split
    case h_16 => simp_all [dmaNamedOffset]
    all_goals
      next hreg =>
        obtain rfl := ofNat_of_toNat hreg
        cases w <;> exact ⟨rfl, rfl, rfl⟩

theorem encodesTo_mfpRow {off : Byte} (hwindow : off.toNat ≤ 0x25) (w : Bool) (d : Byte) :
    EncodesTo (mfpRow w off d) .bus8 (busKey w (mfpAddr off)) := by
  cases heven : mfpEvenOffset off
  case true =>
    rw [← busInstr_mfpAddr hwindow, busInstr_mfpEven heven]
    cases w <;> exact ⟨heven, rfl, rfl⟩
  case false =>
    unfold mfpRow
    split
    case h_20 =>
      simp only [imp_false] at *
      have hodd : ¬(off.toNat ≤ 0x24 ∧ off.toNat % 2 = 0) := by rw [← mfpEvenOffset_iff, heven]; decide
      omega
    all_goals
      next hreg =>
        obtain rfl := ofNat_of_toNat hreg
        cases w <;> exact ⟨rfl, rfl, rfl⟩

/-- The operation of a byte transaction is well formed and encoded at its direction and address, region by region. -/
theorem encodesTo_busInstr (w : Bool) (a : Addr) (d : Byte) : EncodesTo (busInstr w a d) .bus8 (busKey w a) := by
  cases hregion : region a
  case ram =>
    rw [busInstr_of_ram hregion]
    cases w <;> exact ⟨beq_iff_eq.2 hregion, rfl, rfl⟩
  case openBus =>
    rw [busInstr_of_openBus hregion]
    cases w <;> exact ⟨beq_iff_eq.2 hregion, rfl, rfl⟩
  case psg =>
    rw [eq_psgAddr hregion]
    rcases psgOffset_cases (offsetOf a) with ⟨m, hm⟩ | ⟨m, hm⟩ | ⟨m, hm⟩ <;>
      simp only [hm, busInstr_psgSel, busInstr_psgData, busInstr_psgOdd]
    all_goals cases w <;> exact ⟨rfl, rfl, rfl⟩
  case dma =>
    obtain ⟨ha, hwindow⟩ := eq_dmaAddr hregion
    rw [ha, busInstr_dmaAddr hwindow]
    exact encodesTo_dmaRow hwindow w d
  case mfp =>
    obtain ⟨ha, hwindow⟩ := eq_mfpAddr hregion
    rw [ha, busInstr_mfpAddr hwindow]
    exact encodesTo_mfpRow hwindow w d

/-- An operation decoded from a byte key is that of a byte transaction (R100). -/
theorem encodesTo_of_decodeBus8 {k : BitVec 26} {d : Byte} {i : Instr} (hdecode : decodeBus8 k d = .ok i) :
    EncodesTo i .bus8 k := by
  cases hS : k.getLsbD 24
  case true => rw [decodeBus8_halfwordKey hS] at hdecode; cases hdecode
  case false =>
    rw [eq_busKey hS] at hdecode ⊢
    rw [decodeBus8_busKey] at hdecode
    cases hdecode
    exact encodesTo_busInstr ..

theorem encodesTo_of_decodePsgReg {k : BitVec 26} {d : Byte} {i : Instr} (hdecode : decodePsgReg k d = .ok i) :
    EncodesTo i .psgreg k := by
  unfold decodePsgReg at hdecode
  split at hdecode <;> cases hdecode
  all_goals
    next hkey =>
      obtain rfl := ofNat_of_toNat hkey
      exact ⟨rfl, rfl, rfl⟩

/-- The timer operand is the index of the timer (R103, 00_scope R9). -/
theorem decodeTimer_eq_ok_iff (n : Nat) (t : TimerId) : decodeTimer n = .ok t ↔ n = timerIndex t := by
  constructor
  · intro h
    unfold decodeTimer at h
    split at h <;> cases h <;> rfl
  · rintro rfl
    cases t <;> rfl

/-- The two timer operations are decoded from the code `OP` and the index of their timer (R103). -/
theorem timer_of_map_decodeTimer {n : Nat} {op : TimerId → Instr} {i : Instr}
    (hdecode : (decodeTimer n).map op = .ok i) : ∃ t, i = op t ∧ n = timerIndex t := by
  cases htimer : decodeTimer n with
  | error e => rw [htimer] at hdecode; cases hdecode
  | ok t => rw [htimer] at hdecode; cases hdecode; exact ⟨t, rfl, (decodeTimer_eq_ok_iff n t).1 htimer⟩

theorem encodesTo_of_decodeInternal {k : BitVec 26} {rate clock : Nat} {i : Instr}
    (hdecode : decodeInternal k rate clock = .ok i) : EncodesTo i .internal k := by
  unfold decodeInternal at hdecode
  split at hdecode
  case h_9 =>
    split_ifs at hdecode with htick hsignal
    · obtain ⟨t, rfl, ht⟩ := timer_of_map_decodeTimer hdecode
      exact ⟨rfl, rfl, ofNat_of_toNat (by omega)⟩
    · obtain ⟨t, rfl, ht⟩ := timer_of_map_decodeTimer hdecode
      exact ⟨rfl, rfl, ofNat_of_toNat (by omega)⟩
  all_goals
    next hcode =>
      cases hdecode
      exact ⟨by simp [Instr.wf], rfl, ofNat_of_toNat hcode⟩

/-- Settles O3, format by format. -/
theorem encodeInvertsDecodeOnKeys : Obligations.EncodeInvertsDecodeOnKeys := by
  intro p i hdecode
  have hi : EncodesTo i p.fmt p.key := by
    cases hfmt : p.fmt
    case bus8 => exact encodesTo_of_decodeBus8 ((decode_of_bus8 hfmt).symm.trans hdecode)
    case psgreg => exact encodesTo_of_decodePsgReg ((decode_of_psgreg hfmt).symm.trans hdecode)
    case internal => exact encodesTo_of_decodeInternal ((decode_of_internal hfmt).symm.trans hdecode)
  exact ⟨hi.wf, hi.fmt_eq, hi.key_eq⟩

/-! The first row of the table. -/

/-- The table's row for a key (R101): the first that matches, in the group of the key's region, with the operation's
mnemonic. -/
def FirstRow (k : BitVec 26) (i : Instr) : Prop :=
  ∃ r, selectRow k = some r ∧ r.mnemonic = i.mnemonic ∧ r.group = region (k.extractLsb' 0 24)

theorem selects_iff (r : BusRow) (k : BitVec 26) : r.selects k = true ↔
    k &&& r.mask = r.pattern ∧ r.lo ≤ (k.extractLsb' 0 24).toNat ∧ (k.extractLsb' 0 24).toNat ≤ r.hi := by
  simp only [BusRow.selects, toNat_extractLsb'_zero, Bool.and_eq_true, beq_iff_eq, decide_eq_true_eq, and_assoc]

/-- Two rows whose fixed bits differ in a place that both fix do not match the same key. -/
theorem selects_eq_false_of_clash {k mask pattern : BitVec 26} (hk : k &&& mask = pattern) {r : BusRow}
    (hclash : r.pattern &&& mask ≠ pattern &&& r.mask) : r.selects k = false := by
  apply Bool.eq_false_of_not_eq_true
  intro hsel
  obtain ⟨hr, -⟩ := (selects_iff r k).1 hsel
  apply hclash
  rw [← hr, ← hk, BitVec.and_assoc, BitVec.and_assoc, BitVec.and_comm mask]

/-- The lowest address a row can match. -/
def lowestAddr (r : BusRow) : Nat := max r.lo (r.pattern.extractLsb' 0 24).toNat

/-- The highest address a row can match. -/
def highestAddr (r : BusRow) : Nat := min r.hi ((r.pattern ||| ~~~r.mask).extractLsb' 0 24).toNat

/-- Setting the bits that a mask leaves free makes a number no smaller. -/
theorem toNat_le_and_or_not {n : Nat} (x m : BitVec n) : x.toNat ≤ ((x &&& m) ||| ~~~m).toNat := by
  have h : x = x &&& ((x &&& m) ||| ~~~m) := by
    ext i hi
    simp only [BitVec.getElem_and, BitVec.getElem_or, BitVec.getElem_not]
    cases x[i] <;> cases m[i] <;> rfl
  calc x.toNat = (x &&& ((x &&& m) ||| ~~~m)).toNat := congrArg BitVec.toNat h
    _ ≤ ((x &&& m) ||| ~~~m).toNat := by rw [BitVec.toNat_and]; exact Nat.and_le_right

/-- A row's fixed bits and its range bound the addresses it matches. -/
theorem addr_between_of_selects {r : BusRow} {k : BitVec 26} (hsel : r.selects k = true) :
    lowestAddr r ≤ (k.extractLsb' 0 24).toNat ∧ (k.extractLsb' 0 24).toNat ≤ highestAddr r := by
  obtain ⟨hbits, hlo, hhi⟩ := (selects_iff r k).1 hsel
  have hpattern : r.pattern.extractLsb' 0 24 = k.extractLsb' 0 24 &&& r.mask.extractLsb' 0 24 := by
    rw [← hbits, BitVec.extractLsb'_and]
  refine ⟨max_le hlo ?_, le_min hhi ?_⟩
  · rw [hpattern, BitVec.toNat_and]
    exact Nat.and_le_left
  · rw [BitVec.extractLsb'_or, hpattern, BitVec.extractLsb'_not_of_lt (by decide)]
    exact toNat_le_and_or_not _ _

/-- A region other than open bus is an interval. -/
theorem region_of_between {g : Region} (hg : g ≠ .openBus) {lo hi a : Addr} (hlo : region lo = g) (hhi : region hi = g)
    (hloa : lo.toNat ≤ a.toNat) (hahi : a.toNat ≤ hi.toNat) : region a = g := by
  cases g
  case openBus => exact absurd rfl hg
  all_goals
    simp only [region_eq_ram_iff, region_eq_psg_iff, region_eq_dma_iff, region_eq_mfp_iff] at *
    omega

/-- The lowest and the highest address of a row lie in the region its group names, but for the open-bus rows. -/
theorem ends_in_group : ∀ r ∈ busTable, r.group ≠ .openBus →
    region (BitVec.ofNat 24 (lowestAddr r)) = r.group ∧ region (BitVec.ofNat 24 (highestAddr r)) = r.group := by
  decide

/-- A row matches only addresses of its group's region, unless it is an open-bus row. -/
theorem region_of_selects {r : BusRow} (hr : r ∈ busTable) (hgroup : r.group ≠ .openBus) {k : BitVec 26}
    (hsel : r.selects k = true) : region (k.extractLsb' 0 24) = r.group := by
  obtain ⟨hlo, hhi⟩ := ends_in_group r hr hgroup
  obtain ⟨hloa, hahi⟩ := addr_between_of_selects hsel
  have hhighest : highestAddr r < 2 ^ 24 := (min_le_right _ _).trans_lt (BitVec.isLt _)
  have hlowest : lowestAddr r < 2 ^ 24 := hloa.trans_lt (BitVec.isLt _)
  refine region_of_between hgroup hlo hhi ?_ ?_
  · rwa [BitVec.toNat_ofNat, Nat.mod_eq_of_lt hlowest]
  · rwa [BitVec.toNat_ofNat, Nat.mod_eq_of_lt hhighest]

/-- The row number `n` is the first for a key that has its fixed bits and an address of its region in its range, if no
row before it in its group matches: a row of another group matches addresses of another region only. -/
theorem firstRow_of_row {n : Nat} {r : BusRow} (hrow : busTable[n]? = some r) {i : Instr}
    (hname : r.mnemonic = i.mnemonic) {w : Bool} {a : Addr} (hregion : region a = r.group)
    (hbits : busKey w a &&& r.mask = r.pattern) (hrange : r.lo ≤ a.toNat ∧ a.toNat ≤ r.hi)
    (hfirst : ∀ r' ∈ busTable.take n, r'.group = r.group ∨ r'.group = .openBus → r'.selects (busKey w a) = false) :
    FirstRow (busKey w a) i := by
  obtain ⟨hn, hr⟩ := List.getElem?_eq_some_iff.1 hrow
  have hsel : r.selects (busKey w a) = true := (selects_iff r _).2 ⟨hbits, by rwa [addr_busKey]⟩
  have hbefore (r' : BusRow) (hr' : r' ∈ busTable.take n) : r'.selects (busKey w a) = false := by
    by_cases hgroup : r'.group = r.group ∨ r'.group = .openBus
    · exact hfirst r' hr' hgroup
    · obtain ⟨hother, hwindow⟩ := not_or.1 hgroup
      refine Bool.eq_false_of_not_eq_true fun hsel' => hother ?_
      rw [← region_of_selects (List.mem_of_mem_take hr') hwindow hsel', addr_busKey, hregion]
  refine ⟨r, ?_, hname, by rw [addr_busKey, hregion]⟩
  refine List.find?_eq_some_iff_getElem.2 ⟨hsel, n, hn, hr, fun j hj => ?_⟩
  rw [hbefore _ (List.mem_take_iff_getElem.2 ⟨j, by omega, rfl⟩)]
  rfl

/-- A row is the first for its keys if each row before it in its group differs from it in a bit that both fix. -/
theorem firstRow_of_clash {n : Nat} {r : BusRow} (hrow : busTable[n]? = some r) {i : Instr}
    (hname : r.mnemonic = i.mnemonic) {w : Bool} {a : Addr} (hregion : region a = r.group)
    (hbits : busKey w a &&& r.mask = r.pattern) (hrange : r.lo ≤ a.toNat ∧ a.toNat ≤ r.hi)
    (hclash : ∀ r' ∈ busTable.take n, r'.group = r.group ∨ r'.group = .openBus →
      r'.pattern &&& r.mask ≠ r.pattern &&& r'.mask) :
    FirstRow (busKey w a) i :=
  firstRow_of_row hrow hname hregion hbits hrange fun r' hr' hgroup =>
    selects_eq_false_of_clash hbits (hclash r' hr' hgroup)

/-- An address is within the range of a row with no `addr_range` field. -/
theorem addr_in_space (a : Addr) : 0 ≤ a.toNat ∧ a.toNat ≤ 0xFFFFFF :=
  ⟨Nat.zero_le _, Nat.le_of_lt_succ a.isLt⟩

/-- The low byte of a key of the DMA-PCM window is the offset. -/
theorem extractLsb'_busKey_dmaAddr (w : Bool) (off : Byte) : (busKey w (dmaAddr off)).extractLsb' 0 8 = off := by
  apply BitVec.eq_of_toNat_eq
  rw [toNat_extractLsb'_zero, busKey, toNat_append_eq, toNat_dmaAddr, dmaBase]
  omega

/-- The catch-all rows of the DMA-PCM window: the register rows before them match one named offset each, or differ in a
fixed bit. -/
theorem firstRow_dmaUnused {n : Nat} {r : BusRow} (hrow : busTable[n]? = some r) {i : Instr}
    (hname : r.mnemonic = i.mnemonic) {w : Bool} {off : Byte} (hoff : dmaUnusedOffset off = true)
    (hgroup : r.group = .dma) (hlo : r.lo = dmaBase) (hhi : r.hi = dmaBase + 0x25)
    (hbits : busKey w (dmaAddr off) &&& r.mask = r.pattern)
    (hfirst : ∀ r' ∈ busTable.take n, r'.group = .dma ∨ r'.group = .openBus →
      r'.mask = BitVec.allOnes 26 ∧ dmaNamedOffset (r'.pattern.extractLsb' 0 8) = true ∨
        r'.pattern &&& r.mask ≠ r.pattern &&& r'.mask) :
    FirstRow (busKey w (dmaAddr off)) i := by
  obtain ⟨hwindow, hunnamed⟩ := (dmaUnusedOffset_iff off).1 hoff
  refine firstRow_of_row hrow hname (by rw [region_dmaAddr hwindow, hgroup]) hbits
    (by rw [hlo, hhi, toNat_dmaAddr]; omega) fun r' hr' hgroup' => ?_
  rcases hfirst r' hr' (by rwa [← hgroup]) with ⟨hmask, hnamed⟩ | hclash
  · refine Bool.eq_false_of_not_eq_true fun hsel => ?_
    obtain ⟨hkey, -⟩ := (selects_iff r' _).1 hsel
    rw [hmask, BitVec.and_allOnes] at hkey
    rw [← hkey, extractLsb'_busKey_dmaAddr, hunnamed] at hnamed
    cases hnamed
  · exact selects_eq_false_of_clash hbits hclash

/-- Every well-formed byte operation is that of the first row that matches its key. Where the key holds an operand, the
row's fixed bits are those of `Laws.TableRow`; every other key is a constant, whose row is found by evaluation. -/
theorem firstRow_encode {i : Instr} (hwf : i.wf = true) (hfmt : (encode i).fmt = .bus8) :
    FirstRow (encode i).key i := by
  cases i <;>
    simp only [encode, fmt_readAt, fmt_writeAt, fmt_psgRegPacket, fmt_internalPacket, reduceCtorEq] at hfmt <;>
    simp only [encode, key_readAt, key_writeAt]
  case ramR8 a =>
    have hregion : region a = .ram := beq_iff_eq.1 hwf
    exact firstRow_of_clash (n := 0) rfl rfl hregion (Laws.TableRow.ramR8 a hwf).2
      ⟨Nat.zero_le _, Nat.le_sub_one_of_lt ((region_eq_ram_iff a).1 hregion)⟩ (by decide)
  case ramW8 a d =>
    have hregion : region a = .ram := beq_iff_eq.1 hwf
    exact firstRow_of_clash (n := 1) rfl rfl hregion (Laws.TableRow.ramW8 a d hwf).2
      ⟨Nat.zero_le _, Nat.le_sub_one_of_lt ((region_eq_ram_iff a).1 hregion)⟩ (by decide)
  case psgSelW8 m d =>
    exact firstRow_of_clash (n := 2) rfl rfl (region_psgAddr _) (Laws.TableRow.psgSelW8 m d hwf).2
      (addr_in_space _) (by decide)
  case psgSelR8 m =>
    exact firstRow_of_clash (n := 3) rfl rfl (region_psgAddr _) (Laws.TableRow.psgSelR8 m hwf).2
      (addr_in_space _) (by decide)
  case psgDataW8 m d =>
    exact firstRow_of_clash (n := 4) rfl rfl (region_psgAddr _) (Laws.TableRow.psgDataW8 m d hwf).2
      (addr_in_space _) (by decide)
  case psgDataR8 m =>
    exact firstRow_of_clash (n := 5) rfl rfl (region_psgAddr _) (Laws.TableRow.psgDataR8 m hwf).2
      (addr_in_space _) (by decide)
  case psgOddW8 m d =>
    exact firstRow_of_clash (n := 6) rfl rfl (region_psgAddr _) (Laws.TableRow.psgOddW8 m d hwf).2
      (addr_in_space _) (by decide)
  case psgOddR8 m =>
    exact firstRow_of_clash (n := 7) rfl rfl (region_psgAddr _) (Laws.TableRow.psgOddR8 m hwf).2
      (addr_in_space _) (by decide)
  case dmaUnusedR8 off =>
    exact firstRow_dmaUnused (n := 38) rfl rfl hwf rfl rfl rfl (Laws.TableRow.dmaUnusedR8 off hwf).2 (by decide)
  case dmaUnusedW8 off d =>
    exact firstRow_dmaUnused (n := 39) rfl rfl hwf rfl rfl rfl (Laws.TableRow.dmaUnusedW8 off d hwf).2 (by decide)
  case mfpEvenR8 off =>
    obtain ⟨hwindow, -⟩ := (mfpEvenOffset_iff off).1 hwf
    exact firstRow_of_clash (n := 78) rfl rfl (region_mfpAddr (by omega)) (Laws.TableRow.mfpEvenR8 off hwf).2
      (by rw [toNat_mfpAddr, mfpBase]; dsimp only; omega) (by decide)
  case mfpEvenW8 off d =>
    obtain ⟨hwindow, -⟩ := (mfpEvenOffset_iff off).1 hwf
    exact firstRow_of_clash (n := 79) rfl rfl (region_mfpAddr (by omega)) (Laws.TableRow.mfpEvenW8 off d hwf).2
      (by rw [toNat_mfpAddr, mfpBase]; dsimp only; omega) (by decide)
  case openR8 a =>
    exact firstRow_of_clash (n := 80) rfl rfl (beq_iff_eq.1 hwf) (Laws.TableRow.openR8 a hwf).2
      (addr_in_space a) (by decide)
  case openW8 a d =>
    exact firstRow_of_clash (n := 81) rfl rfl (beq_iff_eq.1 hwf) (Laws.TableRow.openW8 a d hwf).2
      (addr_in_space a) (by decide)
  all_goals exact ⟨_, rfl, rfl, rfl⟩

/-- The open-bus rows have no address range: one takes every read, the other every write. -/
theorem openBusRows_match (w : Bool) (a : Addr) : openBusRows.any (fun r => r.selects (busKey w a)) = true := by
  have hrange : 0 ≤ ((busKey w a).extractLsb' 0 24).toNat ∧ ((busKey w a).extractLsb' 0 24).toNat ≤ 0xFFFFFF := by
    rw [addr_busKey]
    exact addr_in_space a
  rw [List.any_eq_true]
  cases w
  case false => exact ⟨_, .head _, (selects_iff _ _).2 ⟨Laws.key_top _ a, hrange⟩⟩
  case true => exact ⟨_, .tail _ (.head _), (selects_iff _ _).2 ⟨Laws.key_top _ a, hrange⟩⟩

/-- Settles O4: a byte key decodes to a well-formed operation with that key, and that operation's row is the first. -/
theorem decoderFollowsTheTable : Obligations.DecoderFollowsTheTable := by
  intro k d hS
  rw [eq_busKey hS]
  generalize k.getLsbD 25 = w
  generalize k.extractLsb' 0 24 = a
  obtain ⟨hwf, hfmt, hkey⟩ := encodesTo_busInstr w a d
  obtain ⟨r, hrow, hname, hgroup⟩ := firstRow_encode hwf hfmt
  rw [hkey] at hrow hgroup
  exact ⟨⟨busInstr w a d, r, decodeBus8_busKey w a d, hrow, hname, hgroup⟩, openBusRows_match w a⟩

/-! Written keys, and the step. -/

/-- Settles O1: each key is a constant. -/
theorem writtenWordsDecode : Obligations.WrittenWordsDecode := by
  unfold Obligations.WrittenWordsDecode
  decide

/-- Settles O6: the step runs the request at the head of the queue, and running a packet is decoding it and `exec`. -/
theorem stepRunsTheDecodedOperation : Obligations.StepRunsTheDecodedOperation := by
  intro s p q i hvalid hqueue hdecode _
  calc step s = runPacket (dequeued s q) p := step_of_queue_cons hvalid hqueue
    _ = exec i (dequeued s q) := by rw [runPacket, hdecode]

end Sys2Proof.Machine

/-! PROOFS of the family 40_psg: the ports and the register writes, the chip tick and the period laws that follow from
it, the envelope shapes, the gates in their packed form, the resampling, one output sample, and the resets. -/

namespace Sys2Proof.Machine

open Sys2Proof.Stated

/-! The ports and the register writes. -/

/-- R210: the select port takes the byte mod 16. -/
theorem toNat_sel_select (p : Psg) (v : Byte) : (p.select v).sel.toNat = v.toNat % 16 :=
  toNat_extractLsb'_zero 4 v

/-- Settles O16: every read is of the selected register, at the odd addresses through the even port below. -/
theorem soundChipPorts : Obligations.SoundChipPorts := by
  intro s m o d
  refine ⟨rfl, rfl, ?odd, rfl, ⟨_, rfl, rfl, toNat_sel_select s.psg d⟩⟩
  case odd =>
    rw [exec, execPsgOddR8, psgRead8_eq_portRead]
    rfl

/-- R240 to R255: each of the sixteen rows is the write of its register. -/
theorem exec_registerWrite (n : Fin 16) (d : Byte) (s : State) :
    exec (registerWrite n d) s = .next { s with psg := s.psg.writeReg n d } := by
  fin_cases n <;> rfl

theorem psgMask_eq_registerMask : ∀ n, psgMask n = registerMask n := by
  decide

/-- What a register holds after a register write, under the mask as the statements write it out. -/
theorem reg_writeReg_registerMask (p : Psg) (n k : Fin 16) (v : Byte) :
    (p.writeReg n v).reg k = if k = n then v &&& registerMask n else p.reg k := by
  rw [reg_writeReg, psgMask_eq_registerMask]

@[simp] theorem sel_writeReg (p : Psg) (n : Fin 16) (v : Byte) : (p.writeReg n v).sel = p.sel := by
  rw [writeReg_eq]

/-- Settles O18: the register written and the others by the rule of the masked store, the frame by `writeReg_eq`. -/
theorem registerWritesStoreMasked : Obligations.RegisterWritesStoreMasked := by
  intro s n d
  refine ⟨_, exec_registerWrite n d s, fun k => reg_writeReg_registerMask s.psg n k d, ?frame⟩
  case frame => rw [writeReg_eq]

/-- R102: the PSGREG key that is the value of `PSG.sel` is the key of the selected register's write. -/
theorem decodePsgReg_sel (sel : BitVec 4) (d : Byte) :
    decodePsgReg (sel.setWidth 26) d = .ok (registerWrite sel.toFin d) := by
  obtain ⟨n⟩ := sel
  fin_cases n <;> rfl

/-- Settles O17: the key `PSG.sel` decodes to the selected register's write, and so does a data-port write act. -/
theorem dataPortWritesTheSelectedRegister : Obligations.DataPortWritesTheSelectedRegister := fun s m d =>
  have hwrite := exec_registerWrite s.psg.sel.toFin d s
  have hport : exec (.psgDataW8 m d) s = .next { s with psg := s.psg.writeReg s.psg.selReg d } := rfl
  ⟨_, _, decodePsgReg_sel s.psg.sel d, hport.trans hwrite.symm, hwrite, sel_writeReg s.psg _ d⟩

/-- Selecting a register's number selects the register. -/
theorem selReg_select (p : Psg) (n : Fin 16) : (p.select (BitVec.ofNat 8 n.val)).selReg = n := by
  apply Fin.ext
  show (p.select (BitVec.ofNat 8 n.val)).sel.toNat = n.val
  rw [toNat_sel_select, BitVec.toNat_ofNat]
  omega

/-- What either port reads after the selected register was written (R202, R203). -/
theorem portRead_writeReg_selReg (p : Psg) (d : Byte) :
    (p.writeReg p.selReg d).portRead = d &&& registerMask p.selReg := by
  have hsel : (p.writeReg p.selReg d).selReg = p.selReg := congrArg BitVec.toFin (sel_writeReg p _ d)
  rw [Psg.portRead, hsel, reg_writeReg_registerMask, if_pos rfl]

/-- Settles O19: the register selected is the one written, and both ports read it. -/
theorem registerRoundTrip : Obligations.RegisterRoundTrip := by
  intro s n d m m' m''
  refine ⟨_, _, rfl, rfl, ?_⟩
  have hread := portRead_writeReg_selReg (s.psg.select (BitVec.ofNat 8 n.val)) d
  rw [selReg_select] at hread
  simp only [exec, execPsgDataR8, execPsgSelR8, selReg_select, hread]
  exact ⟨rfl, rfl⟩

/-! One chip tick. -/

theorem toneRule_step (period : Nat) (x : Tone) : ToneRule period x (x.step period) := by
  unfold ToneRule Tone.step
  split <;> exact ⟨rfl, rfl⟩

/-- R223: the shift moves each bit one place down, and the feedback comes in at the top. -/
theorem lfsrRule_step (r : BitVec 17) : LfsrRule r (lfsrStep r) := by
  refine ⟨fun j hj => ?shift, ?feedback⟩
  case shift => simp [lfsrStep, hj, Nat.add_comm 1 j]
  case feedback => simp [lfsrStep]

theorem noiseRule_tick (p : Psg) : NoiseRule p p.tick := by
  rw [tick_eq]
  refine ⟨rfl, ?_⟩
  cases hhalf : p.noiseHalf
  · by_cases hdue : p.noisePeriod ≤ p.noiseCnt + 1
    · simp [Psg.noiseDue, hhalf, hdue, lfsrRule_step]
    · simp [Psg.noiseDue, hhalf, hdue]
  · simp [Psg.noiseDue, hhalf]

theorem envRule_tick (p : Psg) : EnvRule p p.tick := by
  rw [tick_eq]
  unfold EnvRule
  split
  · exact ⟨rfl, rfl⟩
  · exact ⟨rfl, rfl⟩

theorem tones_tick (p : Psg) (v : Voice) : p.tick.tones.get v = (p.tones.get v).step (p.tonePeriod v) := by
  rw [tick_eq, three_get_build]

/-! The packed words of R25 and R266: channel `v` owns bits 5v+4..5v. -/

/-- A packed word from its lanes. -/
def pack (f : Voice → BitVec 5) : BitVec 15 := f .C ++ f .B ++ f .A

/-- The lane of a voice. -/
def laneOf (v : Voice) (w : BitVec 15) : BitVec 5 := w.extractLsb' (5 * voiceIndex v) 5

@[simp] theorem laneOf_pack (v : Voice) (f : Voice → BitVec 5) : laneOf v (pack f) = f v := by
  cases v
  case A => exact BitVec.extractLsb'_append_eq_right
  case B =>
    calc (f .C ++ f .B ++ f .A).extractLsb' 5 5 = (f .C ++ f .B).extractLsb' 0 5 :=
          BitVec.extractLsb'_append_eq_of_le (by decide)
      _ = f .B := BitVec.extractLsb'_append_eq_right
  case C =>
    calc (f .C ++ f .B ++ f .A).extractLsb' 10 5 = (f .C ++ f .B).extractLsb' 5 5 :=
          BitVec.extractLsb'_append_eq_of_le (by decide)
      _ = f .C := BitVec.extractLsb'_append_eq_left

@[simp] theorem laneOf_and (v : Voice) (x y : BitVec 15) : laneOf v (x &&& y) = laneOf v x &&& laneOf v y :=
  BitVec.extractLsb'_and

@[simp] theorem laneOf_or (v : Voice) (x y : BitVec 15) : laneOf v (x ||| y) = laneOf v x ||| laneOf v y :=
  BitVec.extractLsb'_or

theorem lane_or (a b : Bool) : lane a ||| lane b = lane (a || b) := by
  cases a <;> cases b <;> rfl

/-- A mask lane is all ones or all zeros. -/
theorem and_lane (x : BitVec 5) (b : Bool) : x &&& lane b = if b then x else 0 := by
  cases b
  · exact BitVec.and_zero
  · exact BitVec.and_allOnes

theorem getLsbD_lane (b : Bool) {i : Nat} (hi : i < 5) : (lane b).getLsbD i = b := by
  cases b
  · exact BitVec.getLsbD_zero
  · exact (BitVec.getLsbD_allOnes (v := 5)).trans (decide_eq_true hi)

@[simp] theorem laneOf_edgeWord (p : Psg) (v : Voice) : laneOf v p.edgeWord = lane (p.tones.get v).edge :=
  laneOf_pack v fun v => lane (p.tones.get v).edge

@[simp] theorem laneOf_noiseWord (p : Psg) (v : Voice) : laneOf v p.noiseWord = lane p.noiseBit := by
  unfold Psg.noiseWord
  cases p.noiseBit <;> cases v <;> rfl

@[simp] theorem laneOf_levelWord (p : Psg) (v : Voice) : laneOf v p.levelWord = BitVec.ofNat 5 (p.levelIndex v) :=
  laneOf_pack v fun v => BitVec.ofNat 5 (p.levelIndex v)

@[simp] theorem laneOf_toneOffWord (p : Psg) (v : Voice) : laneOf v p.toneOffWord = lane (p.toneOff v) :=
  laneOf_pack v fun v => lane (p.toneOff v)

@[simp] theorem laneOf_noiseOffWord (p : Psg) (v : Voice) : laneOf v p.noiseOffWord = lane (p.noiseOff v) :=
  laneOf_pack v fun v => lane (p.noiseOff v)

theorem voiceIndex_laneVoice {n : Nat} (hn : n < 3) : voiceIndex (laneVoice n) = n := by
  interval_cases n <;> rfl

/-- R25: each bit of the edge word is the edge of the channel that owns it. -/
theorem getLsbD_edgeWord (p : Psg) {j : Nat} (hj : j < 15) :
    p.edgeWord.getLsbD j = (p.tones.get (laneVoice (j / 5))).edge := by
  have hi : j % 5 < 5 := Nat.mod_lt _ (by decide)
  have hbit : 5 * voiceIndex (laneVoice (j / 5)) + j % 5 = j := by
    rw [voiceIndex_laneVoice (by omega)]
    omega
  calc p.edgeWord.getLsbD j = (laneOf (laneVoice (j / 5)) p.edgeWord).getLsbD (j % 5) := by
        rw [laneOf, BitVec.getLsbD_extractLsb', hbit, decide_eq_true hi, Bool.true_and]
    _ = (p.tones.get (laneVoice (j / 5))).edge := by rw [laneOf_edgeWord, getLsbD_lane _ hi]

/-- Settles O21: `tick_eq` is the frame; each generator follows its rule, and the word is that of the new edges. -/
theorem chipTick : Obligations.ChipTick := by
  intro s
  refine ⟨_, s.psg.tick.edgeWord, rfl, ?frame, fun v => ?tone, noiseRule_tick s.psg, envRule_tick s.psg,
    fun j hj => getLsbD_edgeWord s.psg.tick hj⟩
  case frame =>
    rw [tick_eq]
    rfl
  case tone =>
    show ToneRule _ _ (s.psg.tick.tones.get v)
    rw [tones_tick]
    exact toneRule_step _ _

/-! Levels and gates. -/

theorem levelIndex_eq_stated (p : Psg) (v : Voice) : p.levelIndex v = levelIndex p v := by
  simp only [Psg.levelIndex, levelIndex, toNat_extractLsb'_zero]
  rfl

theorem gatedIndex_eq_stated (p : Psg) (v : Voice) : p.gatedIndex v = gatedIndex p v := by
  unfold Psg.gatedIndex gatedIndex
  simp only [levelIndex_eq_stated, Psg.toneOpen, Psg.noiseOpen, Psg.toneOff, Psg.noiseOff, Bool.and_eq_true,
    Bool.or_eq_true]

/-- R266: the packed word holds each channel's gated index in its lane. -/
theorem laneOf_gatedWord (p : Psg) (v : Voice) : laneOf v p.gatedWord = BitVec.ofNat 5 (p.gatedIndex v) := by
  have hgates : laneOf v p.gatedWord =
      BitVec.ofNat 5 (p.levelIndex v) &&& lane (p.toneOpen v) &&& lane (p.noiseOpen v) := by
    simp only [Psg.gatedWord, laneOf_and, laneOf_or, laneOf_levelWord, laneOf_edgeWord, laneOf_toneOffWord,
      laneOf_noiseWord, laneOf_noiseOffWord, lane_or, Psg.toneOpen, Psg.noiseOpen]
  rw [hgates, and_lane, and_lane, Psg.gatedIndex]
  cases p.toneOpen v <;> cases p.noiseOpen v <;> rfl

/-- Settles O26: a gated index fits its lane. -/
theorem packedGates : Obligations.PackedGates := by
  intro p v
  calc (laneOf v p.gatedWord).toNat = p.gatedIndex v % 2 ^ 5 := by rw [laneOf_gatedWord, BitVec.toNat_ofNat]
    _ = p.gatedIndex v := Nat.mod_eq_of_lt (Nat.lt_succ_of_le (gatedIndex_le p v))
    _ = gatedIndex p v := gatedIndex_eq_stated p v

/-- R230 at index `i` of segment `k`. -/
theorem envLevel_segment (s : BitVec 4) (k : Nat) {i : Nat} (hi : i < 32) :
    envLevel s (32 * k + i) =
      if k = 0 then ramp (s.getLsbD 2) i
      else if !s.getLsbD 3 then 0
      else if s.getLsbD 0 then (if s.getLsbD 2 ^^ s.getLsbD 1 then 31 else 0)
      else if s.getLsbD 1 then ramp (s.getLsbD 2 ^^ decide (k = 1)) i
      else ramp (s.getLsbD 2) i := by
  have hk : (32 * k + i) / 32 = k := by omega
  have hi' : (32 * k + i) % 32 = i := by omega
  simp only [envLevel, hk, hi']

/-- Settles O24: each shape's four bits give its three segments. -/
theorem envelopeShapes : Obligations.EnvelopeShapes := by
  intro s i
  have h0 := envLevel_segment (BitVec.ofNat 4 s.val) 0 i.isLt
  have h1 := envLevel_segment (BitVec.ofNat 4 s.val) 1 i.isLt
  have h2 := envLevel_segment (BitVec.ofNat 4 s.val) 2 i.isLt
  rw [Nat.mul_zero, Nat.zero_add] at h0
  rw [h0, h1, h2]
  fin_cases s <;> exact ⟨rfl, rfl, rfl⟩

/-! Runs of one operation. -/

/-- An operation that always completes, with `f` done to the sound chip, does `f` as often as it is run. -/
theorem after_of_exec {i : Instr} {f : Psg → Psg} (hexec : ∀ s, ∃ t, exec i s = .next t ∧ t.psg = f s.psg) :
    ∀ (n : Nat) (s : State), ∃ t, after i n s = some t ∧ t.psg = f^[n] s.psg
  | 0, s => ⟨s, rfl, rfl⟩
  | n + 1, s => by
    obtain ⟨t, ht, hpsg⟩ := hexec s
    obtain ⟨u, hu, hpsg'⟩ := after_of_exec hexec n t
    refine ⟨u, ?_, ?_⟩
    · rw [after, ht]
      exact hu
    · rw [hpsg', hpsg, Function.iterate_succ_apply]

theorem tickN_eq_iterate : ∀ (n : Nat) (p : Psg), Psg.tickN n p = Psg.tick^[n] p
  | 0, _ => rfl
  | n + 1, p => tickN_eq_iterate n p.tick

theorem after_psgTick (n : Nat) (s : State) : ∃ t, after .psgTick n s = some t ∧ t.psg = Psg.tickN n s.psg := by
  rw [tickN_eq_iterate]
  exact after_of_exec (fun _ => ⟨_, rfl, rfl⟩) n s

/-! The period laws: tones and envelope are the same kind of counter. -/

/-- One step of a counter of a period that does `next` to what it drives when it starts again. -/
def countStep {α : Type} (period : Nat) (next : α → α) (x : Nat × α) : Nat × α :=
  if period ≤ x.1 + 1 then (0, next x.2) else (x.1 + 1, x.2)

/-- From 0 the counter drives nothing for fewer than `max period 1` steps; then it drives once and is at 0 again. -/
theorem iterate_countStep {α : Type} (period : Nat) (next : α → α) (a : α) : ∀ k, k ≤ max period 1 →
    (countStep period next)^[k] (0, a) = if k < max period 1 then (k, a) else (0, next a)
  | 0, _ => (if_pos (lt_max_of_lt_right Nat.one_pos)).symm
  | k + 1, hk => by
    rw [Function.iterate_succ_apply', iterate_countStep period next a k (Nat.le_of_succ_le hk),
      if_pos (Nat.lt_of_succ_le hk), countStep]
    by_cases hdue : period ≤ k + 1
    · rw [if_pos hdue, if_neg (by omega)]
    · rw [if_neg hdue, if_pos (by omega)]

section Counter
variable {α : Type} {counter : Psg → Nat × α} {period : Psg → Nat} {next : α → α}
  (hstep : ∀ p, counter p.tick = countStep (period p) next (counter p)) (hperiod : ∀ p, period p.tick = period p)
include hstep hperiod

/-- Ticks step a part of the chip that each tick steps as a counter, of a period that ticks keep. -/
theorem counter_tickN : ∀ (n : Nat) (p : Psg),
    counter (Psg.tickN n p) = (countStep (period p) next)^[n] (counter p)
  | 0, _ => rfl
  | n + 1, p => by rw [Psg.tickN, counter_tickN n p.tick, hperiod, hstep, Function.iterate_succ_apply]

/-- The state of such a part after ticks from 0. -/
theorem counter_after_psgTick {s : State} {a : α} (hzero : counter s.psg = (0, a)) {k : Nat}
    (hk : k ≤ max (period s.psg) 1) :
    ∃ t, after .psgTick k s = some t ∧
      counter t.psg = if k < max (period s.psg) 1 then (k, a) else (0, next a) := by
  obtain ⟨t, hafter, hpsg⟩ := after_psgTick k s
  refine ⟨t, hafter, ?_⟩
  rw [hpsg, counter_tickN hstep hperiod, hzero, iterate_countStep _ _ _ k hk]

end Counter

/-- A tone's counter, and the edge it drives. -/
def Psg.toneCounter (v : Voice) (p : Psg) : Nat × Bool := ((p.tones.get v).cnt, (p.tones.get v).edge)

/-- The envelope's counter, and the position it drives. -/
def Psg.envCounter (p : Psg) : Nat × Nat := (p.envCnt, p.envPos)

/-- The position after an envelope position (R224). -/
def nextEnvPos (pos : Nat) : Nat := if pos = 95 then 32 else pos + 1

theorem toneCounter_tick (v : Voice) (p : Psg) :
    p.tick.toneCounter v = countStep (p.tonePeriod v) Bool.not (p.toneCounter v) := by
  unfold Psg.toneCounter countStep
  rw [tones_tick, Tone.step]
  split <;> rfl

theorem envCounter_tick (p : Psg) : p.tick.envCounter = countStep p.envPeriod nextEnvPos p.envCounter := by
  rw [tick_eq]
  unfold Psg.envCounter countStep
  dsimp only
  split <;> rfl

theorem tonePeriod_tick (v : Voice) (p : Psg) : p.tick.tonePeriod v = p.tonePeriod v := by
  rw [tick_eq]
  rfl

theorem envPeriod_tick (p : Psg) : p.tick.envPeriod = p.envPeriod := by
  rw [tick_eq]
  rfl

/-- Settles O22: a tone is a counter that toggles its edge. -/
theorem tonePeriodLaw : Obligations.TonePeriodLaw := by
  intro s v k hcnt hk
  have hzero : s.psg.toneCounter v = (0, (s.psg.tones.get v).edge) := by rw [Psg.toneCounter, hcnt]
  obtain ⟨t, hafter, hcounter⟩ := counter_after_psgTick (toneCounter_tick v) (tonePeriod_tick v) hzero hk
  refine ⟨t, hafter, ?edge, fun hlast => ?count⟩
  case edge => exact (congrArg Prod.snd hcounter).trans (apply_ite Prod.snd ..)
  case count =>
    rw [if_neg hlast.not_lt] at hcounter
    exact congrArg Prod.fst hcounter

/-- Settles O23: the envelope is a counter that moves its position on. -/
theorem envelopePeriodLaw : Obligations.EnvelopePeriodLaw := by
  intro s k hcnt hk
  have hzero : s.psg.envCounter = (0, s.psg.envPos) := by rw [Psg.envCounter, hcnt]
  obtain ⟨t, hafter, hcounter⟩ := counter_after_psgTick envCounter_tick envPeriod_tick hzero hk
  refine ⟨t, hafter, ?position, fun hlast => ?count⟩
  case position => exact (congrArg Prod.snd hcounter).trans (apply_ite Prod.snd ..)
  case count =>
    rw [if_neg hlast.not_lt] at hcounter
    exact congrArg Prod.fst hcounter

/-! The resampling. -/

/-- R261: the rule's loop, given enough turns, runs the ticks of the quotient and leaves the remainder. -/
theorem resampleLoop_eq : ∀ (fuel : Nat) (p : Psg), 1 ≤ p.host → p.resAcc ≤ fuel →
    resampleLoop fuel p = { Psg.tickN (p.resAcc / p.host) p with resAcc := p.resAcc % p.host }
  | 0, p, _, hfuel => by
    have hacc : p.resAcc = 0 := Nat.le_zero.1 hfuel
    rw [resampleLoop, hacc, Nat.zero_div, Nat.zero_mod, Psg.tickN, ← hacc]
  | fuel + 1, p, hhost, hfuel => by
    unfold resampleLoop
    by_cases hdue : p.host ≤ p.resAcc
    · obtain ⟨-, -, -, -, hticked, -⟩ := tick_frame p
      rw [if_pos hdue, resampleLoop_eq fuel _ (hticked ▸ hhost) (by dsimp only; omega), tickN_resAcc]
      dsimp only
      rw [hticked, ← Nat.mod_eq_sub_mod hdue, Nat.div_eq_sub_div hhost hdue, Psg.tickN]
    · rw [if_neg hdue, Nat.div_eq_of_lt (not_le.1 hdue), Nat.mod_eq_of_lt (not_le.1 hdue)]
      rfl

theorem resample_eq_stated {p : Psg} (hhost : 1 ≤ p.host) : p.resample = resample p := by
  unfold resample
  rw [resampleLoop_eq _ { p with resAcc := p.resAcc + p.clk8 } hhost le_rfl, tickN_resAcc]
  rfl

theorem chip_tickN (n : Nat) (p : Psg) : chip (Psg.tickN n p) = Psg.tickN n (chip p) := by
  have htick : Function.Semiconj chip Psg.tick Psg.tick := fun p => by
    rw [tick_eq, tick_eq]
    rfl
  simp only [tickN_eq_iterate]
  exact htick.iterate_right n p

/-- What a sample does to the chip and its clocks: the ticks that fit, and the remainder (R260, R261). -/
theorem sample_clock (p : Psg) :
    chip p.sample.1 = chip (Psg.tickN ((p.resAcc + p.clk8) / p.host) p) ∧
      p.sample.1.resAcc = (p.resAcc + p.clk8) % p.host ∧ p.sample.1.clk8 = p.clk8 ∧ p.sample.1.host = p.host := by
  obtain ⟨-, -, -, hclk8, hhost, -⟩ := tickN_frame ((p.resAcc + p.clk8) / p.host) p
  exact ⟨rfl, rfl, hclk8, hhost⟩

/-- `n` sound-chip samples. -/
def Psg.sampleN (n : Nat) (p : Psg) : Psg := (fun p => p.sample.1)^[n] p

theorem after_psgSample (n : Nat) (s : State) :
    ∃ t, after .psgSample n s = some t ∧ t.psg = Psg.sampleN n s.psg :=
  after_of_exec (fun _ => ⟨_, rfl, rfl⟩) n s

/-- R261: over `n` samples the chip has run the ticks of the whole time, and the remainder is in the accumulator. -/
theorem sampleN_clock {p : Psg} (hhost : 1 ≤ p.host) (hacc : p.resAcc < p.host) (n : Nat) :
    chip (Psg.sampleN n p) = chip (Psg.tickN ((n * p.clk8 + p.resAcc) / p.host) p) ∧
      (Psg.sampleN n p).resAcc = (n * p.clk8 + p.resAcc) % p.host ∧
      (Psg.sampleN n p).clk8 = p.clk8 ∧ (Psg.sampleN n p).host = p.host := by
  induction n with
  | zero =>
    rw [Nat.zero_mul, Nat.zero_add, Nat.div_eq_of_lt hacc, Nat.mod_eq_of_lt hacc]
    exact ⟨rfl, rfl, rfl, rfl⟩
  | succ n ih =>
    obtain ⟨hchip, hrem, hclk8, hhost'⟩ := ih
    have hsucc : Psg.sampleN (n + 1) p = (Psg.sampleN n p).sample.1 := Function.iterate_succ_apply' _ n p
    obtain ⟨hchip', hrem', hclk8', hhost''⟩ := sample_clock (Psg.sampleN n p)
    have htime : (n + 1) * p.clk8 + p.resAcc = n * p.clk8 + p.resAcc + p.clk8 := by ring
    have hticks : (n * p.clk8 + p.resAcc) / p.host + ((n * p.clk8 + p.resAcc) % p.host + p.clk8) / p.host =
        (n * p.clk8 + p.resAcc + p.clk8) / p.host := by
      rw [← Nat.mul_add_div hhost, ← Nat.add_assoc, Nat.div_add_mod]
    rw [hsucc, htime]
    rw [hrem, hclk8, hhost'] at hchip' hrem'
    refine ⟨?_, hrem'.trans (Nat.mod_add_mod ..), hclk8'.trans hclk8, hhost''.trans hhost'⟩
    rw [hchip', chip_tickN, hchip, ← chip_tickN, ← tickN_add, hticks]

/-- Settles O25: the loop is the division; so the ticks and the remainder add up, and one sample's ticks are few. -/
theorem resamplingKeepsExactTime : Obligations.ResamplingKeepsExactTime := by
  refine ⟨fun p => resample_eq_stated, fun s n hhost hacc => ?exact, fun p hclk8 hhost hacc => ?atRate,
    fun p hslow hnone => ?noTick⟩
  case exact =>
    obtain ⟨t, hsamples, ht⟩ := after_psgSample n s
    obtain ⟨u, hticks, hu⟩ := after_psgTick ((n * s.psg.clk8 + s.psg.resAcc) / s.psg.host) s
    obtain ⟨hchip, hrem, -⟩ := sampleN_clock hhost hacc n
    exact ⟨t, u, hsamples, hticks, by rw [ht, hu, hchip], by rw [ht, hrem]⟩
  case atRate =>
    rw [← resample_eq_stated (by omega), Psg.resample, hclk8, hhost]
    rw [hhost] at hacc
    refine ⟨(p.resAcc + 250000) / 44100, by omega, ?_⟩
    rw [Nat.mod_eq_sub, Nat.mul_comm]
  case noTick =>
    rw [← resample_eq_stated (by omega), Psg.resample, Nat.div_eq_of_lt hnone, Nat.mod_eq_of_lt hnone]
    rfl

/-! One output sample. -/

theorem rawSum_eq_stated (p : Psg) :
    p.rawSum = volTable (gatedIndex p .A) + volTable (gatedIndex p .B) + volTable (gatedIndex p .C) := by
  simp only [Psg.rawSum, gatedIndex_eq_stated]

/-- The sum of slots below `n` at rising keys from `lo` on, none above `bound`. -/
theorem dcTotal_le {n bound : Nat} : ∀ (b : List (Nat × Nat)) (lo : Nat), sparseWfFrom 0 lo b = true →
    (∀ c ∈ b, c.1 < n ∧ c.2 ≤ bound) → dcTotal b ≤ (n - lo) * bound
  | [], _, _, _ => Nat.zero_le _
  | (k, w) :: b, lo, hform, hslots => by
    simp only [sparseWfFrom, Bool.and_eq_true, decide_eq_true_eq] at hform
    obtain ⟨⟨hlo, -⟩, htail⟩ := hform
    obtain ⟨hk, hw⟩ := hslots (k, w) List.mem_cons_self
    have ih := dcTotal_le b (k + 1) htail fun c hc => hslots c (List.mem_cons_of_mem _ hc)
    calc dcTotal ((k, w) :: b) = w + dcTotal b := dcTotal_cons _ _
      _ ≤ bound + (n - (k + 1)) * bound := Nat.add_le_add hw ih
      _ = (n - (k + 1) + 1) * bound := by ring
      _ ≤ (n - lo) * bound := Nat.mul_le_mul_right _ (by dsimp only at hk; omega)

/-- The average of the ring buffer is one of an amplitude sum's values. -/
theorem PsgOk.average_le {p : Psg} (h : PsgOk p) : p.dcSum / Config.dcLen ≤ 3 * 65535 := by
  refine Nat.div_le_of_le_mul ?_
  rw [h.dcSum]
  exact dcTotal_le p.dcBuf 0 h.dcForm h.dcSlots

/-- A sample's whole effect: the ticks touch nothing of the filter, and the filter nothing else (R260, R265). -/
theorem sample_eq (p : Psg) :
    p.sample =
      ({ p.resample with
          dcSum := p.dcSum - sparseGet 0 p.dcBuf p.dcIdx + p.resample.rawSum
          dcBuf := sparseSet 0 p.dcBuf p.dcIdx p.resample.rawSum
          dcIdx := (p.dcIdx + 1) % Config.dcLen },
        (p.resample.rawSum : Int) - ((p.dcSum / Config.dcLen : Nat) : Int)) := by
  obtain ⟨-, -, -, -, -, hbuf, hsum, hidx⟩ := tickN_frame ((p.resAcc + p.clk8) / p.host) p
  have hbuf' : p.resample.dcBuf = p.dcBuf := hbuf
  have hsum' : p.resample.dcSum = p.dcSum := hsum
  have hidx' : p.resample.dcIdx = p.dcIdx := hidx
  rw [Psg.sample, Psg.dcFilter, hbuf', hsum', hidx']

/-- Settles O28: the oldest slot is part of the running sum, and both the raw sum and the average are sums of three
amplitudes at most. -/
theorem soundChipSample : Obligations.SoundChipSample := by
  intro s hs
  have hexec : exec .psgSample s = .next { s with psg := s.psg.sample.1, out := .sample s.psg.sample.2 } := rfl
  have hraw := rawSum_le s.psg.resample
  have haverage := hs.average_le
  rw [sample_eq] at hexec
  rw [← resample_eq_stated hs.host]
  refine ⟨_, _, _, hexec, rawSum_eq_stated _, rfl, rfl, ?sum, fun j => ?slot, ?low, ?high⟩
  case sum =>
    have hold : sparseGet 0 s.psg.dcBuf s.psg.dcIdx ≤ s.psg.dcSum :=
      hs.dcSum ▸ sparseGet_le_dcTotal hs.dcForm s.psg.dcIdx
    dsimp only
    omega
  case slot => exact sparseGet_sparseSet 0 s.psg.dcBuf 0 s.psg.dcIdx j _ hs.dcForm
  all_goals generalize s.psg.dcSum / Config.dcLen = average at haverage ⊢
  case low => omega
  case high => omega

/-! The resets. -/

theorem exec_psgReset {rate clock : Nat} (hrate : 1 ≤ rate) (hclock : 8 ≤ clock) (s : State) :
    exec (.psgReset rate clock) s = .next { s with psg := Psg.fresh rate clock } :=
  (if_neg (by omega)).trans (if_neg (by omega))

theorem exec_mfpReset {rate : Nat} (hrate : 1 ≤ rate) (s : State) :
    exec (.mfpReset rate) s = .next { s with mfp := Mfp.fresh rate } :=
  if_neg (by omega)

theorem exec_dmaReset {rate : Nat} (hrate : 1 ≤ rate) (s : State) :
    exec (.dmaReset rate) s = .next { s with dma := Dma.fresh rate } :=
  if_neg (by omega)

theorem exec_sysReset {rate : Nat} (hrate : 1 ≤ rate) (s : State) :
    exec (.sysReset rate) s = .next (s.sysReset rate) :=
  if_neg (by omega)

/-- Settles O49: each reset with its operands in range writes the reset values. -/
theorem resetsLeaveTheResetValues : Obligations.ResetsLeaveTheResetValues := fun s _ _ hrate hclock =>
  ⟨exec_psgReset hrate hclock s, exec_mfpReset hrate s, exec_dmaReset hrate s,
    ⟨_, exec_sysReset hrate s, rfl, fun _ ha => if_pos ha⟩⟩

end Sys2Proof.Machine

/-! PROOFS of the family 41_mfp_timers: the register reads and writes, the tick as the rule's loop and the timing law of
a delay-mode timer, the external event, and when one output sample counts the events raised before it. -/

namespace Sys2Proof.Machine

open Sys2Proof.Stated

/-! The register reads, and the writes that store a byte. -/

/-- R323: a data register reads the count mod 256. -/
theorem readData_eq_mod (m : Mfp) (t : TimerId) :
    m.readData t = BitVec.ofNat 8 ((m.timers.get t).counter % 256) :=
  BitVec.eq_of_toNat_eq (by simp only [Mfp.readData, BitVec.toNat_ofNat, Nat.mod_mod, Nat.reducePow])

/-- Handing over the byte of a data register is handing over the count mod 256. -/
theorem give_readData (s : State) (t : TimerId) :
    s.give (.byte (s.mfp.readData t)) =
      { s with out := .byte (BitVec.ofNat 8 ((s.mfp.timers.get t).counter % 256)) } := by
  rw [readData_eq_mod]
  rfl

/-- Settles O31: the data registers by the count mod 256, every other one by its stored or fixed byte. -/
theorem timerRegisterReads : Obligations.TimerRegisterReads := by
  intro s off
  have hdata := fun t => congrArg (Host.Outcome.next (φ := Fault) (ρ := Refusal)) (give_readData s t)
  exact ⟨rfl, rfl, rfl, rfl, rfl, rfl, rfl, rfl, rfl, rfl, rfl, rfl, rfl, rfl, rfl,
    hdata .A, hdata .B, hdata .C, hdata .D, rfl⟩

/-- Settles O32: these writes touch no timer, so each is one field's update, or none. -/
theorem timerStorageWrites : Obligations.TimerStorageWrites := fun _ _ _ =>
  ⟨rfl, rfl, rfl, rfl, rfl, rfl, rfl, rfl, rfl, rfl, rfl⟩

/-! Enable, control and data writes. -/

/-- R320: an enable write that left the timers alone until then does to them what the rule says. -/
theorem enableRule_restartEnabled (before after : Mfp) (htimers : after.timers = before.timers) :
    EnableRule before (before.restartEnabled after) := by
  intro t
  have hen : (before.restartEnabled after).en t = after.en t := by cases t <;> rfl
  have hdelay : (before.restartEnabled after).delay t = after.delay t := by cases t <;> rfl
  rw [restartEnabled_get, htimers, hen, hdelay]
  refine if_congr ?_ rfl rfl
  simp [and_assoc]

/-- Settles O33: both enable writes are `restartEnabled` on the byte stored. -/
theorem enableWriteRestartsTimers : Obligations.EnableWriteRestartsTimers := fun s v =>
  ⟨⟨_, rfl, rfl, enableRule_restartEnabled s.mfp { s.mfp with iera := v } rfl⟩,
    ⟨_, rfl, rfl, enableRule_restartEnabled s.mfp { s.mfp with ierb := v } rfl⟩⟩

/-- R321: a control write that left the timers alone until then does to them what the rule says. -/
theorem controlRule_startControlled (before after : Mfp) (ts : List TimerId)
    (htimers : after.timers = before.timers) : ControlRule ts before (before.startControlled after ts) := by
  intro t
  have hcounting : (before.startControlled after ts).counting t = after.counting t := by cases t <;> rfl
  rw [startControlled_get, htimers, hcounting]
  refine if_congr ?_ rfl rfl
  simp [and_assoc]

/-- Settles O34: the three control writes are `startControlled` on the masked byte stored. -/
theorem controlWriteClearsAccumulators : Obligations.ControlWriteClearsAccumulators := fun s v =>
  ⟨⟨_, rfl, rfl, controlRule_startControlled s.mfp { s.mfp with tacr := v &&& 0x0F } [.A] rfl⟩,
    ⟨_, rfl, rfl, controlRule_startControlled s.mfp { s.mfp with tbcr := v &&& 0x0F } [.B] rfl⟩,
    ⟨_, rfl, rfl, controlRule_startControlled s.mfp { s.mfp with tcdcr := v &&& 0x77 } [.C, .D] rfl⟩⟩

/-- R322: the reload value is stored, and the count follows it while the timer is stopped. -/
theorem load_eq (x : Timer) (v : Byte) (stopped : Bool) :
    x.load v stopped =
      { x with
        reload := v
        counter := if stopped = true then (if v = 0 then 256 else v.toNat) else x.counter } := by
  cases stopped <;> rfl

/-- A count that stands for a byte, 256 for 0, reads as that byte (R322, R323). -/
theorem ofNat_count (v : Byte) : BitVec.ofNat 8 (if v = 0 then 256 else v.toNat) = v := by
  split
  next hzero => rw [hzero]; rfl
  next => exact BitVec.ofNat_toNat 8 v |>.trans (BitVec.setWidth_eq v)

/-- R322, R323: the byte written to a stopped timer's data register is read back. -/
theorem readData_writeData {m : Mfp} {t : TimerId} (hstopped : m.ctrl t = 0) (v : Byte) :
    (m.writeData t v).readData t = v := by
  have hload : (m.timers.get t).load v (m.stopped t) =
      { m.timers.get t with reload := v, counter := if v = 0 then 256 else v.toNat } := by
    rw [load_eq, Mfp.stopped, if_pos (beq_iff_eq.2 hstopped)]
  rw [Mfp.readData, writeData_get, if_pos rfl, hload]
  exact ofNat_count v

/-- Settles O35: each of the four rows is the write and the read of its timer's data. -/
theorem dataWriteAndRead : Obligations.DataWriteAndRead := by
  intro s v x hx
  have hrow : (∀ s, exec x.1 s = .next { s with mfp := s.mfp.writeData x.2.2 v }) ∧
      ∀ s, exec x.2.1 s = .next { s with out := .byte (s.mfp.readData x.2.2) } := by
    simp only [List.mem_cons, List.not_mem_nil, or_false] at hx
    obtain rfl | rfl | rfl | rfl := hx <;> exact ⟨fun _ => rfl, fun _ => rfl⟩
  obtain ⟨hwrite, hread⟩ := hrow
  refine ⟨_, hwrite s, rfl, fun u => ?timers, fun hstopped => ?readBack⟩
  case timers =>
    rw [writeData_get]
    refine ite_congr rfl (fun hu => ?_) fun _ => rfl
    rw [hu, load_eq, Mfp.stopped]
    simp only [beq_iff_eq]
  case readBack => rw [hread, readData_writeData hstopped]

/-! The external event. -/

/-- R340: signalling a timer twice is the same as once. -/
theorem signal_signal_self (m : Mfp) (t : TimerId) : (m.signal t).signal t = m.signal t := by
  have htimers : ((m.signal t).signal t).timers = (m.signal t).timers := by
    refine five_ext _ _ fun u => ?_
    rw [signal_get]
    split
    next hu => subst hu; simp only [signal_get, if_true]
    next => rfl
  exact congrArg (fun ts => { m with timers := ts }) htimers

/-- Settles O39: the flag by the rule of the signal, the second signal by its idempotence. -/
theorem externalEvent : Obligations.ExternalEvent := by
  intro s t
  refine ⟨_, rfl, rfl, fun u => ?flag, ?again⟩
  case flag =>
    rw [signal_get]
    exact ite_congr rfl (fun hu => by rw [hu]) fun _ => rfl
  case again => exact congrArg (fun m => Host.Outcome.next { s with mfp := m }) (signal_signal_self s.mfp t)

/-! The tick as the rule's loop. -/

/-- Count-downs do not read the accumulator. -/
theorem countDown_withAcc (x : Timer) (a : Nat) :
    ({ x with acc := a } : Timer).countDown = ({ x.countDown.1 with acc := a }, x.countDown.2) := by
  simp only [Timer.countDown, Timer.reloadCount]
  split <;> rfl

theorem countDownN_withAcc (a : Nat) : ∀ (n : Nat) (x : Timer),
    Timer.countDownN n { x with acc := a } = ({ (Timer.countDownN n x).1 with acc := a }, (Timer.countDownN n x).2)
  | 0, _ => rfl
  | n + 1, x => by simp only [Timer.countDownN, countDown_withAcc, countDownN_withAcc a n]

/-- R330: the rule's loop, given enough turns, makes the quotient's count-downs and leaves the remainder. -/
theorem delayLoop_eq {unit : Nat} (hunit : 1 ≤ unit) : ∀ (fuel : Nat) (x : Timer) (fired : Bool), x.acc ≤ fuel →
    delayLoop unit fuel x fired =
      ({ (Timer.countDownN (x.acc / unit) x).1 with acc := x.acc % unit },
        (Timer.countDownN (x.acc / unit) x).2 || fired)
  | 0, x, fired, hfuel => by
    have hacc : x.acc = 0 := Nat.le_zero.1 hfuel
    rw [delayLoop, hacc, Nat.zero_div, Nat.zero_mod, Timer.countDownN, ← hacc, Bool.false_or]
  | fuel + 1, x, fired, hfuel => by
    unfold delayLoop
    by_cases hdue : unit ≤ x.acc
    · have hturn : countDown { x with acc := x.acc - unit } =
          ({ x.countDown.1 with acc := x.acc - unit }, x.countDown.2) := countDown_withAcc x _
      have hcount : Timer.countDownN (x.acc / unit) x =
          ((Timer.countDownN ((x.acc - unit) / unit) x.countDown.1).1,
            x.countDown.2 || (Timer.countDownN ((x.acc - unit) / unit) x.countDown.1).2) := by
        rw [Nat.div_eq_sub_div hunit hdue, Timer.countDownN]
      rw [if_pos hdue, hturn, hcount, Nat.mod_eq_sub_mod hdue]
      dsimp only
      rw [delayLoop_eq hunit fuel _ _ (by dsimp only; omega), countDownN_withAcc]
      dsimp only
      congr 1
      ac_rfl
    · rw [if_neg hdue, Nat.div_eq_of_lt (not_le.1 hdue), Nat.mod_eq_of_lt (not_le.1 hdue), Timer.countDownN,
        Bool.false_or]

/-- R7, R32: a delay-mode timer has a prescaler. -/
theorem one_le_pre_of_delay {m : Mfp} {t : TimerId} (hdelay : m.delay t = true) : 1 ≤ m.pre t := by
  revert hdelay
  rw [Mfp.delay, Mfp.eventMode, Mfp.pre]
  generalize m.ctrl t = c
  revert c
  decide

/-- R330: with a host rate, one count-down of a delay-mode timer takes some time. -/
theorem one_le_unit {m : Mfp} {t : TimerId} (hhost : 1 ≤ m.host) (hdelay : m.delay t = true) :
    1 ≤ m.pre t * m.host :=
  Nat.mul_pos (one_le_pre_of_delay hdelay) hhost

/-- A timer given `clock` units of its accumulator, of which a count-down takes `unit` (R330). A delay-mode tick gives
it `MFP_CLOCK` units. -/
def Timer.runFor (x : Timer) (unit clock : Nat) : Timer × Bool :=
  ({ (Timer.countDownN ((x.acc + clock) / unit) x).1 with acc := (x.acc + clock) % unit },
    (Timer.countDownN ((x.acc + clock) / unit) x).2)

theorem delayTick_eq_runFor (x : Timer) (unit : Nat) : x.delayTick unit = x.runFor unit Config.mfpClock := rfl

theorem delayLoop_eq_runFor {unit : Nat} (hunit : 1 ≤ unit) (x : Timer) (clock : Nat) :
    delayLoop unit (x.acc + clock) { x with acc := x.acc + clock } false = x.runFor unit clock := by
  rw [delayLoop_eq hunit _ { x with acc := x.acc + clock } _ le_rfl, countDownN_withAcc, Bool.or_false]
  rfl

theorem tickTimer_eq_countTimer {m : Mfp} (hhost : 1 ≤ m.host) (t : TimerId) : tickTimer m t = m.countTimer t := by
  unfold tickTimer Mfp.countTimer
  dsimp only
  split
  next =>
    split
    next => rfl
    next =>
      split
      next hdelay => exact delayLoop_eq_runFor (one_le_unit hhost hdelay) _ Config.mfpClock
      next => rfl
  next => rfl

/-- Settles O36: the loop is what the model counts, and a tick changes that timer only. -/
theorem timerTick : Obligations.TimerTick := by
  intro s t hhost
  rw [tickTimer_eq_countTimer hhost]
  exact ⟨_, rfl, rfl, mfpTick_get s.mfp t⟩

/-! A tick keeps the states of the timers. -/

@[simp] theorem mfpTick_eventMode (m : Mfp) (t u : TimerId) : (m.tick t).1.eventMode u = m.eventMode u := by
  rw [Mfp.eventMode, mfpTick_ctrl, Mfp.eventMode]

@[simp] theorem mfpTick_delay (m : Mfp) (t u : TimerId) : (m.tick t).1.delay u = m.delay u := by
  rw [Mfp.delay, mfpTick_eventMode, mfpTick_ctrl, Mfp.delay]

@[simp] theorem mfpTick_pre (m : Mfp) (t u : TimerId) : (m.tick t).1.pre u = m.pre u := by
  rw [Mfp.pre, mfpTick_ctrl, Mfp.pre]

@[simp] theorem mfpTick_timerMode (m : Mfp) (t u : TimerId) : (m.tick t).1.timerMode u = m.timerMode u := by
  simp only [Mfp.timerMode, mfpTick_en, mfpTick_delay, mfpTick_eventMode]

/-- R34: a disabled timer is not enabled, and an armed one neither in delay mode nor in event mode. -/
theorem idle_of_timerMode {m : Mfp} {t : TimerId} (hmode : m.timerMode t = .disabled ∨ m.timerMode t = .armed) :
    m.en t = false ∨ m.delay t = false ∧ m.eventMode t = false := by
  unfold Mfp.timerMode at hmode
  split at hmode
  next hen => exact .inl ((Bool.not_eq_true' _).mp hen)
  next =>
    split at hmode
    next => simp at hmode
    next hdelay =>
      split at hmode
      next => simp at hmode
      next hevent => exact .inr ⟨Bool.eq_false_iff.2 hdelay, Bool.eq_false_iff.2 hevent⟩

/-- R330: a timer that is disabled or armed does not count. -/
theorem countTimer_of_idle {m : Mfp} {t : TimerId}
    (hidle : m.en t = false ∨ m.delay t = false ∧ m.eventMode t = false) : m.countTimer t = (m.timers.get t, false) := by
  rcases hidle with hen | ⟨hdelay, hevent⟩
  · simp [Mfp.countTimer, hen]
  · simp [Mfp.countTimer, hdelay, hevent]

/-- Settles O38: the state of a timer is read off registers that no tick writes. -/
theorem tickKeepsTimerStates : Obligations.TickKeepsTimerStates := by
  intro s t
  refine ⟨_, rfl, mfpTick_timerMode s.mfp t, fun hmode => ?_⟩
  have hcount := countTimer_of_idle (idle_of_timerMode hmode)
  have hfired : (s.mfp.tick t).2 = false := by rw [Mfp.tick, hcount]; rfl
  simp only [give_mfp, give_out, mfpTick_get, if_true, hcount, hfired, and_self]

/-! The timing law of a delay-mode timer. -/

/-- R330: a count-down at a count that is `q` count-downs after a reload; it fires at the multiples of the reload
count. -/
theorem countDown_after {x : Timer} {q : Nat} (hcount : x.counter = x.reloadCount - q % x.reloadCount) :
    x.countDown.1.counter = x.reloadCount - (q + 1) % x.reloadCount ∧
      (x.countDown.2 = true ↔ (q + 1) % x.reloadCount = 0) := by
  obtain ⟨hpos, -⟩ := reloadCount_bounds x
  have hlt : q % x.reloadCount < x.reloadCount := Nat.mod_lt _ hpos
  unfold Timer.countDown
  rw [← Nat.mod_add_mod]
  by_cases hlast : q % x.reloadCount + 1 = x.reloadCount
  · rw [if_pos (by omega), hlast, Nat.mod_self]
    exact ⟨rfl, iff_of_true rfl rfl⟩
  · rw [if_neg (by omega), Nat.mod_eq_of_lt (by omega)]
    exact ⟨by dsimp only; omega, iff_of_false Bool.false_ne_true (Nat.succ_ne_zero _)⟩

theorem countDown_reloadCount (x : Timer) : x.countDown.1.reloadCount = x.reloadCount := by
  rw [countDown_eq]
  rfl

theorem countDownN_reloadCount (n : Nat) (x : Timer) : (Timer.countDownN n x).1.reloadCount = x.reloadCount := by
  rw [countDownN_eq]
  rfl

/-- `n` count-downs fire exactly if one of their numbers is a multiple of the reload count. -/
theorem countDownN_after : ∀ (n : Nat) {x : Timer} {q : Nat}, x.counter = x.reloadCount - q % x.reloadCount →
    (Timer.countDownN n x).1.counter = x.reloadCount - (q + n) % x.reloadCount ∧
      ((Timer.countDownN n x).2 = true ↔ ∃ i, q < i ∧ i ≤ q + n ∧ i % x.reloadCount = 0)
  | 0, _, _, hcount => ⟨hcount, iff_of_false Bool.false_ne_true fun ⟨_, hlo, hhi, _⟩ => absurd hlo hhi.not_gt⟩
  | n + 1, x, q, hcount => by
    obtain ⟨hone, hfirst⟩ := countDown_after hcount
    rw [← countDown_reloadCount x] at hone
    obtain ⟨hrest, hlater⟩ := countDownN_after n hone
    rw [countDown_reloadCount, Nat.add_right_comm, Nat.add_assoc] at hrest hlater
    refine ⟨hrest, ?_⟩
    rw [Timer.countDownN, Bool.or_eq_true, hfirst, hlater]
    constructor
    · rintro (hmultiple | ⟨i, hlo, hhi, hmultiple⟩)
      · exact ⟨q + 1, by omega, by omega, hmultiple⟩
      · exact ⟨i, by omega, hhi, hmultiple⟩
    · rintro ⟨i, hlo, hhi, hmultiple⟩
      by_cases hi : i = q + 1
      · exact .inl (hi ▸ hmultiple)
      · exact .inr ⟨i, by omega, hhi, hmultiple⟩

/-- A timer restarted with count `N` and since then given `time` units of its accumulator, of which a count-down takes
`unit` (R320, R330). -/
structure Timer.Ran (N unit time : Nat) (x : Timer) : Prop where
  reload : x.reloadCount = N
  acc : x.acc = time % unit
  counter : x.counter = N - time / unit % N

/-- A running timer given more time fires exactly if a multiple of `N` is among the count-downs due in it. -/
theorem Timer.Ran.runFor {N unit time : Nat} {x : Timer} (hunit : 1 ≤ unit) (h : x.Ran N unit time) (clock : Nat) :
    (x.runFor unit clock).1.Ran N unit (time + clock) ∧
      ((x.runFor unit clock).2 = true ↔ ∃ n, time < n * unit ∧ n * unit ≤ time + clock ∧ n % N = 0) := by
  obtain ⟨rfl, hacc, hcounter⟩ := h
  have hcounts : time / unit + (x.acc + clock) / unit = (time + clock) / unit := by
    rw [hacc, ← Nat.mul_add_div hunit, ← Nat.add_assoc, Nat.div_add_mod]
  obtain ⟨hcount, hfired⟩ := countDownN_after ((x.acc + clock) / unit) hcounter
  rw [hcounts] at hcount hfired
  refine ⟨⟨countDownN_reloadCount _ x, ?_, hcount⟩, ?_⟩
  · rw [Timer.runFor, hacc]
    exact Nat.mod_add_mod ..
  · simp only [Timer.runFor, hfired, Nat.div_lt_iff_lt_mul hunit, Nat.le_div_iff_mul_le hunit]

/-- A timer enabled in delay mode counts by its prescaler (R330). -/
theorem countTimer_of_delay {m : Mfp} {t : TimerId} (hen : m.en t = true) (hdelay : m.delay t = true) :
    m.countTimer t = (m.timers.get t).delayTick (m.pre t * m.host) := by
  have hevent : m.eventMode t = false := by
    simp only [Mfp.delay, Bool.and_eq_true, Bool.not_eq_true'] at hdelay
    exact hdelay.1
  unfold Mfp.countTimer
  simp [hen, hdelay, hevent]

/-- A controller in whose delay mode timer `t` has run. -/
structure Mfp.DelayRun (t : TimerId) (N unit time : Nat) (m : Mfp) : Prop where
  en : m.en t = true
  delay : m.delay t = true
  host : 1 ≤ m.host
  prescaled : m.pre t * m.host = unit
  timer : (m.timers.get t).Ran N unit time

theorem Mfp.DelayRun.tick {t : TimerId} {N unit time : Nat} {m : Mfp} (h : m.DelayRun t N unit time) :
    (m.tick t).1.DelayRun t N unit (time + Config.mfpClock) ∧
      ((m.countTimer t).2 = true ↔
        ∃ n, time < n * unit ∧ n * unit ≤ time + Config.mfpClock ∧ n % N = 0) := by
  obtain ⟨hen, hdelay, hhost, rfl, htimer⟩ := h
  obtain ⟨⟨hreload, hacc, hcounter⟩, hfired⟩ := htimer.runFor (one_le_unit hhost hdelay) Config.mfpClock
  rw [← delayTick_eq_runFor, ← countTimer_of_delay hen hdelay] at hreload hacc hcounter hfired
  refine ⟨⟨?_, ?_, hhost, ?_, ?_⟩, hfired⟩
  · rw [mfpTick_en, hen]
  · rw [mfpTick_delay, hdelay]
  · rw [mfpTick_pre, mfpTick_host]
  · rw [mfpTick_get, if_pos rfl]
    exact ⟨hreload, hacc, hcounter⟩

/-- The state after MFP_TICK(t) (R330). -/
def mfpTickState (t : TimerId) (s : State) : State :=
  ({ s with mfp := (s.mfp.tick t).1 } : State).give (.fired (s.mfp.tick t).2)

theorem exec_mfpTick (t : TimerId) (s : State) : exec (.mfpTick t) s = .next (mfpTickState t s) := rfl

/-- An operation that always completes, with the state `f` makes, run `n` times. -/
theorem after_eq_iterate {i : Instr} {f : State → State} (hexec : ∀ s, exec i s = .next (f s)) :
    ∀ (n : Nat) (s : State), after i n s = some (f^[n] s)
  | 0, _ => rfl
  | n + 1, s => by
    rw [after, hexec]
    exact after_eq_iterate hexec n (f s)

/-- Ticks of a delay-mode timer run it for as many periods of the clock, and leave its mask bit. -/
theorem delayRun_ticks {s : State} {t : TimerId} {N unit : Nat} (h : s.mfp.DelayRun t N unit 0) (k : Nat) :
    ((mfpTickState t)^[k] s).mfp.DelayRun t N unit (k * Config.mfpClock) ∧
      ((mfpTickState t)^[k] s).mfp.msk t = s.mfp.msk t := by
  induction k with
  | zero => exact ⟨(Nat.zero_mul _).symm ▸ h, rfl⟩
  | succ k ih =>
    obtain ⟨hrun, hmsk⟩ := ih
    obtain ⟨htick, -⟩ := hrun.tick
    rw [Function.iterate_succ_apply', Nat.succ_mul]
    exact ⟨htick, (mfpTick_msk _ t t).trans hmsk⟩

/-- Settles O37: the last tick is one tick of a timer that has run for the periods before it. -/
theorem delayTimerLaw : Obligations.DelayTimerLaw := by
  intro s t k hhost hen hdelay hcounter hacc hk
  obtain ⟨k, rfl⟩ := Nat.exists_eq_add_of_le' hk
  have hstart : s.mfp.DelayRun t (reload (s.mfp.timers.get t)) (s.mfp.pre t * s.mfp.host) 0 :=
    ⟨hen, hdelay, hhost, rfl, rfl, by rw [hacc, Nat.zero_mod], by rw [hcounter, Nat.zero_div, Nat.zero_mod]; rfl⟩
  obtain ⟨hrun, hmsk⟩ := delayRun_ticks hstart k
  obtain ⟨hlast, hfired⟩ := hrun.tick
  rw [← Nat.succ_mul] at hlast hfired
  refine ⟨(mfpTickState t)^[k + 1] s, (((mfpTickState t)^[k] s).mfp.countTimer t).2,
    after_eq_iterate (exec_mfpTick t) (k + 1) s, ?acc, ?counter, ?out, ?fired⟩
  case acc =>
    rw [Function.iterate_succ_apply']
    exact hlast.timer.acc
  case counter =>
    rw [Function.iterate_succ_apply']
    exact hlast.timer.counter
  case out =>
    rw [Function.iterate_succ_apply', ← hmsk]
    rfl
  case fired =>
    rw [hfired, Nat.add_sub_cancel]
    constructor
    · rintro ⟨n, hlo, hhi, hmultiple⟩
      exact ⟨n, Nat.pos_of_mul_pos_right (Nat.zero_lt_of_lt hlo), hmultiple, hhi, hlo⟩
    · rintro ⟨n, -, hmultiple, hhi, hlo⟩
      exact ⟨n, hlo, hhi, hmultiple⟩


/-! One output sample: when events are counted. -/

/-- The first planned run, as the statements take it. -/
theorem nextRun_eq_planned (s : State) : nextRun s = planned s := by
  unfold nextRun planned
  cases s.env.runs <;> rfl

/-- The host's transactions as the statements' fold over the bus. -/
theorem foldl_transact_eq : ∀ (xs : List BusTx) (s : State) (bytes : List Byte),
    xs.foldl transact (s, bytes) = ((hostTxs s xs).1, bytes ++ (hostTxs s xs).2)
  | [], s, bytes => by simp [hostTxs]
  | .read a :: xs, s, bytes => by
    rw [List.foldl_cons, transact, foldl_transact_eq xs, List.append_assoc]
    rfl
  | .write a v :: xs, s, bytes => foldl_transact_eq xs (busWrite8 s a v) bytes

/-- R503: the model's dispatch is the statements' one. -/
theorem hostDispatch_eq_dispatch (kind : DispatchKind) (target : Addr) (arg budget : Nat) (s : State) :
    hostDispatch kind target arg budget s = dispatch kind target arg budget s := by
  have htransacts : transacts s ((planned s).steps.take budget).flatten = hostSteps s (planned s).steps budget := by
    rw [transacts, foldl_transact_eq, hostSteps_eq, List.nil_append]
  have henv : (hostSteps s (planned s).steps budget).1.env = s.env := by rw [hostSteps_eq, hostTxs_env]
  simp only [hostDispatch, dispatch, nextRun_eq_planned, htransacts, henv]
  rfl

/-- R504: the model's player tick is the statements' one. -/
theorem playerTick_eq_player (s : State) : playerTick s = player s := by
  simp only [playerTick, player, State.playerDue, beq_iff_eq, hostDispatch_eq_dispatch]

/-! What the record of dispatches cannot change: a dispatch does the same to the machine whatever is recorded. -/

/-- The state with another environment. -/
def State.withEnv (s : State) (e : Env) : State := { s with env := e }

theorem hostTx_withEnv (s : State) (e : Env) (x : BusTx) :
    hostTx (s.withEnv e) x = ((hostTx s x).1.withEnv e, (hostTx s x).2) := by
  cases x with
  | read a => simp only [hostTx, busRead8, State.withEnv]; cases region a <;> rfl
  | write a v => simp only [hostTx, busWrite8, State.withEnv]; cases region a <;> rfl

theorem hostTxs_withEnv : ∀ (xs : List BusTx) (s : State) (e : Env),
    hostTxs (s.withEnv e) xs = ((hostTxs s xs).1.withEnv e, (hostTxs s xs).2)
  | [], _, _ => rfl
  | x :: xs, s, e => by simp only [hostTxs, hostTx_withEnv, hostTxs_withEnv xs]

theorem hostDispatch_noDispatches_mfp (kind : DispatchKind) (target : Addr) (arg budget : Nat) (s : State) :
    (hostDispatch kind target arg budget s.noDispatches).mfp = (hostDispatch kind target arg budget s).mfp := by
  have hrun : nextRun s.noDispatches = nextRun s := rfl
  have hsteps := hostTxs_withEnv ((nextRun s).steps.take budget).flatten s s.noDispatches.env
  simp only [hostDispatch, hrun, hostSteps_eq]
  exact congrArg (fun r => r.1.mfp) hsteps

/-- The player tick does the same to the timers whatever dispatches are recorded. -/
theorem playerTick_noDispatches_mfp (s : State) : (playerTick s.noDispatches).mfp = (player s).mfp := by
  have hdue : s.noDispatches.playerDue = s.playerDue := rfl
  rw [← playerTick_eq_player, playerTick, playerTick, hdue]
  split
  · exact hostDispatch_noDispatches_mfp ..
  · rfl

/-! Event flags. -/

/-- The controller has these event flags. -/
def Mfp.HasEvents (f : TimerId → Bool) (m : Mfp) : Prop := ∀ t, (m.timers.get t).event = f t

/-- No register write touches an event flag. -/
theorem mfpWrite8_event (m : Mfp) (off v : Byte) (t : TimerId) :
    ((m.write8 off v).timers.get t).event = (m.timers.get t).event := by
  have hrestart : ∀ after : Mfp, after.timers = m.timers →
      ((m.restartEnabled after).timers.get t).event = (m.timers.get t).event := by
    intro after htimers
    rw [restartEnabled_get, htimers, apply_ite Timer.event]
    exact ite_id _
  have hstart : ∀ (after : Mfp) (ts : List TimerId), after.timers = m.timers →
      ((m.startControlled after ts).timers.get t).event = (m.timers.get t).event := by
    intro after ts htimers
    rw [startControlled_get, htimers, apply_ite Timer.event]
    exact ite_id _
  have hload : ∀ u, ((m.writeData u v).timers.get t).event = (m.timers.get t).event := by
    intro u
    rw [writeData_get, load_eq]
    split
    next ht => rw [ht]
    next => rfl
  unfold Mfp.write8
  split
  case h_4 | h_5 => exact hrestart _ rfl
  case h_13 | h_14 | h_15 => exact hstart _ _ rfl
  case h_16 | h_17 | h_18 | h_19 => exact hload _
  all_goals rfl

theorem busRead8_mfp (s : State) (a : Addr) : (busRead8 s a).1.mfp = s.mfp := by
  rw [busRead8_eq]

theorem busWrite8_hasEvents {f : TimerId → Bool} (s : State) (a : Addr) (v : Byte) (h : s.mfp.HasEvents f) :
    (busWrite8 s a v).mfp.HasEvents f := by
  rcases busWrite8_cases s a v with ⟨-, hw⟩ | ⟨-, hw⟩ | ⟨-, hw⟩ | ⟨-, hw⟩ | ⟨-, hw⟩ <;> rw [hw]
  case inr.inr.inr.inl => exact fun t => (mfpWrite8_event s.mfp _ v t).trans (h t)
  all_goals exact h

/-- No dispatch to the host touches an event flag. -/
theorem irqDispatches_hasEvents {f : TimerId → Bool} (fired : Five Bool) (ts : List TimerId) {s : State}
    (h : s.mfp.HasEvents f) : (irqDispatches fired ts s).mfp.HasEvents f :=
  irqDispatches_keeps (fun s => s.mfp.HasEvents f) (fun s a h => by rw [busRead8_mfp]; exact h)
    busWrite8_hasEvents (fun _ _ h => h) fired ts s h

theorem player_hasEvents {f : TimerId → Bool} {s : State} (h : s.mfp.HasEvents f) : (player s).mfp.HasEvents f := by
  rw [← playerTick_eq_player, playerTick]
  split
  · exact hostDispatch_keeps (fun s => s.mfp.HasEvents f) (fun s a h => by rw [busRead8_mfp]; exact h)
      busWrite8_hasEvents (fun _ _ h => h) _ _ _ _ s h
  · exact h

/-! The five ticks. -/

/-- The tick of one timer counts no other. -/
theorem countTimer_tick_of_ne {t u : TimerId} (hne : u ≠ t) (m : Mfp) :
    (m.tick t).1.countTimer u = m.countTimer u := by
  simp only [Mfp.countTimer, mfpTick_get, if_neg hne, mfpTick_en, mfpTick_eventMode, mfpTick_delay, mfpTick_pre,
    mfpTick_host]

theorem tickAll_get (m : Mfp) (t : TimerId) :
    m.tickAll.1.timers.get t = { (m.countTimer t).1 with event := false } := by
  cases t <;> simp [Mfp.tickAll, countTimer_tick_of_ne]

/-- What a tick answers: the timer fired and is masked in. -/
theorem mfpTick_fired (m : Mfp) (t : TimerId) : (m.tick t).2 = ((m.countTimer t).2 && m.msk t) := rfl

theorem tickAll_fired (m : Mfp) (t : TimerId) : m.tickAll.2.get t = ((m.countTimer t).2 && m.msk t) := by
  cases t <;> simp [Mfp.tickAll, Five.get, mfpTick_fired, countTimer_tick_of_ne]

/-- R330: a timer enabled in event mode counts once if its flag is set. -/
theorem countTimer_of_event {m : Mfp} {t : TimerId} (hen : m.en t = true) (hmode : m.eventMode t = true) :
    m.countTimer t = if (m.timers.get t).event = true then (m.timers.get t).countDown else (m.timers.get t, false) :=
  (if_pos hen).trans (if_pos hmode)

/-- R330: the count of a timer enabled in event mode goes one count-down on if its flag is set. -/
theorem countTimer_counter_of_event {m : Mfp} {t : TimerId} (hen : m.en t = true) (hmode : m.eventMode t = true) :
    (m.countTimer t).1.counter =
      if (m.timers.get t).event = true then (m.timers.get t).countDown.1.counter else (m.timers.get t).counter := by
  rw [countTimer_of_event hen hmode]
  split <;> rfl

theorem countDown_fires_iff (x : Timer) : x.countDown.2 = true ↔ x.counter = 1 := by
  unfold Timer.countDown
  split <;> simp [*]

/-- R330: a timer enabled in event mode fires exactly if its flag is set at a count of 1. -/
theorem countTimer_fires_of_event {m : Mfp} {t : TimerId} (hen : m.en t = true) (hmode : m.eventMode t = true) :
    (m.countTimer t).2 = true ↔ (m.timers.get t).event = true ∧ (m.timers.get t).counter = 1 := by
  rw [countTimer_of_event hen hmode]
  split
  next hevent => simp only [hevent, true_and, countDown_fires_iff]
  next hevent => simp only [hevent, false_and, Bool.false_eq_true]

/-! The record of a sample's dispatches. -/

/-- What the recorded dispatches were for, in order. -/
def State.dispatchKinds (s : State) : List DispatchKind := s.env.dispatched.map DispatchRec.kind

theorem mem_dispatchKinds {s : State} {kind : DispatchKind} :
    kind ∈ s.dispatchKinds ↔ ∃ r ∈ s.env.dispatched, r.kind = kind :=
  List.mem_map

theorem hostDispatch_kinds (kind : DispatchKind) (target : Addr) (arg budget : Nat) (s : State) :
    (hostDispatch kind target arg budget s).dispatchKinds = s.dispatchKinds ++ [kind] :=
  List.map_append

theorem mem_irqDispatches_kinds (fired : Five Bool) (x : TimerId) : ∀ (ts : List TimerId) (s : State),
    .irq x ∈ (irqDispatches fired ts s).dispatchKinds ↔ .irq x ∈ s.dispatchKinds ∨ x ∈ ts ∧ fired.get x = true
  | [], s => by simp [irqDispatches]
  | t :: ts, s => by
    rw [irqDispatches, mem_irqDispatches_kinds fired x ts]
    by_cases hfired : fired.get t = true
    · rw [if_pos hfired, hostDispatch_kinds]
      by_cases hx : x = t
      · simp [hx, hfired]
      · simp [hx]
    · rw [if_neg hfired]
      by_cases hx : x = t
      · simp [hx, hfired]
      · simp [hx]

theorem irq_not_mem_playerTick_kinds (s : State) (x : TimerId) :
    .irq x ∉ (playerTick s.noDispatches).dispatchKinds := by
  have hnone : s.noDispatches.dispatchKinds = [] := rfl
  unfold playerTick
  split
  · simp [hostDispatch_kinds, hnone]
  · simp [hnone]

theorem mem_allTimers (x : TimerId) : x ∈ allTimers := by
  cases x <;> decide

/-- What a sample leaves: the record is the one of the host's part, and the timers are as the DMA-PCM sample leaves
them (R501). -/
theorem env_mfp_of_exec_sysSample {s t : State} (hexec : exec .sysSample s = .next t) :
    t.env = (hostPhase s.noDispatches).env ∧
      t.mfp = (dmaSample (hostPhase s.noDispatches).ram (hostPhase s.noDispatches).dma
        (hostPhase s.noDispatches).mfp).2.1 := by
  cases hexec
  exact ⟨rfl, rfl⟩

/-- R501, R505: a timer is dispatched in a sample exactly if it fires, masked in, in the state that the player tick
left. -/
theorem irq_dispatched_iff {s t : State} (hexec : exec .sysSample s = .next t) (x : TimerId) :
    (∃ r ∈ t.env.dispatched, r.kind = .irq x) ↔
      ((player s).mfp.countTimer x).2 = true ∧ (player s).mfp.msk x = true := by
  obtain ⟨henv, -⟩ := env_mfp_of_exec_sysSample hexec
  have hplayer : ¬ .irq x ∈ (playerTick s.noDispatches).dispatchKinds := irq_not_mem_playerTick_kinds s x
  rw [henv, ← mem_dispatchKinds, hostPhase, mem_irqDispatches_kinds, tickAll_fired, playerTick_noDispatches_mfp,
    Bool.and_eq_true]
  exact (or_iff_right hplayer).trans (and_iff_right (mem_allTimers x))

/-! What the host's part and the DMA-PCM channel leave of the timers. -/

theorem player_mfpOk {s : State} (h : MfpOk s.mfp) : MfpOk (player s).mfp := by
  have inv := PartInvariants.mk ramInvariant_true psgInvariant_true mfpInvariant_mfpOk dmaInvariant_true
  rw [← playerTick_eq_player, playerTick]
  split
  · obtain ⟨-, -, hmfp, -⟩ := inv.hostDispatch .player s.song.playerEntry 0 s.song.tickBudget s
      ⟨trivial, trivial, h, trivial⟩
    exact hmfp
  · exact h

theorem playerTick_song (s : State) : (playerTick s).song = s.song := by
  unfold playerTick
  split
  · obtain ⟨-, hsong, -⟩ := hostDispatch_frame .player s.song.playerEntry 0 s.song.tickBudget s
    exact hsong
  · rfl

/-- Interrupt handlers with no budget leave the timers alone (R503). -/
theorem irqDispatches_mfp_of_no_budget (fired : Five Bool) : ∀ (ts : List TimerId) {s : State},
    s.song.irqBudget = 0 → (irqDispatches fired ts s).mfp = s.mfp
  | [], _, _ => rfl
  | t :: ts, s, hbudget => by
    rw [irqDispatches, hbudget]
    split
    · obtain ⟨-, hsong, -⟩ := hostDispatch_frame (.irq t) (vector t) 0 0 s
      rw [irqDispatches_mfp_of_no_budget fired ts (by rw [hsong, hbudget]), hostDispatch, hostSteps_eq]
      rfl
    · exact irqDispatches_mfp_of_no_budget fired ts hbudget

theorem hostPhase_mfp_of_no_budget {s : State} (hbudget : s.song.irqBudget = 0) :
    (hostPhase s.noDispatches).mfp = (player s).mfp.tickAll.1 := by
  have hsong : (playerTick s.noDispatches).song = s.song := playerTick_song s.noDispatches
  rw [hostPhase, irqDispatches_mfp_of_no_budget _ _ (by rw [hsong, hbudget])]
  dsimp only
  rw [playerTick_noDispatches_mfp]

/-- The five ticks clear every event flag, and no interrupt handler sets one (R330, R501). -/
theorem hostPhase_hasNoEvents (s : State) : (hostPhase s).mfp.HasEvents fun _ => false :=
  irqDispatches_hasEvents _ _ fun t => by
    dsimp only
    rw [tickAll_get]

theorem bufferEnd_get (m : Mfp) (t : TimerId) :
    m.bufferEnd.timers.get t =
      if t = .A ∨ t = .GPI7 then { m.timers.get t with event := true } else m.timers.get t := by
  cases t <;> rfl

/-- R421, R340: a second buffer end in a sample signals nothing new. -/
theorem bufferEnd_bufferEnd (m : Mfp) : m.bufferEnd.bufferEnd = m.bufferEnd := by
  have htimers : m.bufferEnd.bufferEnd.timers = m.bufferEnd.timers := by
    refine five_ext _ _ fun t => ?_
    rw [bufferEnd_get, bufferEnd_get]
    split <;> rfl
  exact congrArg (fun ts => { m with timers := ts }) htimers

/-- A DMA-PCM sample leaves the timers alone, or signals Timer A and GPI7 (R420, R421). -/
theorem dmaSample_mfp_cases (ram : List Host.Cell) (d : Dma) (m : Mfp) :
    (dmaSample ram d m).2.1 = m ∨ (dmaSample ram d m).2.1 = m.bufferEnd := by
  have hframe : ∀ (d : Dma) (m' : Mfp), m' = m ∨ m' = m.bufferEnd →
      (dmaFrame ram d m').2 = m ∨ (dmaFrame ram d m').2 = m.bufferEnd := by
    intro d m' h
    rcases dmaFrame_cases ram d m' with ⟨-, heq⟩ | ⟨-, heq⟩ <;> rw [heq]
    · exact h
    · refine .inr ?_
      rcases h with rfl | rfl
      · rfl
      · exact bufferEnd_bufferEnd m
  unfold dmaSample
  split
  · exact dmaLoop_keeps ram (fun _ m' => m' = m ∨ m' = m.bufferEnd) hframe _ _ _ (.inl rfl)
  · exact .inl rfl

/-- A DMA-PCM sample changes no count. -/
theorem dmaSample_counter (ram : List Host.Cell) (d : Dma) (m : Mfp) (t : TimerId) :
    ((dmaSample ram d m).2.1.timers.get t).counter = (m.timers.get t).counter := by
  rcases dmaSample_mfp_cases ram d m with heq | heq <;> rw [heq]
  rw [bufferEnd_get, apply_ite Timer.counter]
  exact ite_id _

/-- From clear flags, the DMA-PCM sample sets those of Timer A and GPI7 together and no other. -/
theorem dmaSample_events (ram : List Host.Cell) (d : Dma) {m : Mfp} (hclear : m.HasEvents fun _ => false) :
    ∃ ended : Bool, (dmaSample ram d m).2.1.HasEvents fun t => ended && decide (t = .A ∨ t = .GPI7) := by
  rcases dmaSample_mfp_cases ram d m with heq | heq <;> rw [heq]
  · exact ⟨false, hclear⟩
  · refine ⟨true, fun t => ?_⟩
    rw [bufferEnd_get, apply_ite Timer.event, hclear t]
    simp

/-- Settles O55: a sample's ticks see the flags it began with and clear them, and its DMA channel, which runs last,
sets them for the next. -/
theorem eventsAreCountedOneSampleLater : Obligations.EventsAreCountedOneSampleLater := by
  intro s t hs hexec
  have hevents : ∀ x, ((player s).mfp.timers.get x).event = (s.mfp.timers.get x).event :=
    player_hasEvents fun _ => rfl
  obtain ⟨-, hmfp⟩ := env_mfp_of_exec_sysSample hexec
  obtain ⟨ended, hended⟩ := dmaSample_events (hostPhase s.noDispatches).ram (hostPhase s.noDispatches).dma
    (hostPhase_hasNoEvents s.noDispatches)
  rw [← hmfp] at hended
  refine ⟨fun x _ => hevents x, ?gpi7, fun hen hmode => ⟨?timerA, fun hbudget => ?count⟩,
    fun x _ => hostPhase_hasNoEvents _ x, hmfp, (hended .A).trans (hended .GPI7).symm, ?b, ?c, ?d⟩
  case gpi7 =>
    rw [irq_dispatched_iff hexec]
    by_cases hen : (player s).mfp.en .GPI7 = true
    · obtain ⟨-, hcounter⟩ := (player_mfpOk hs).gpi7
      rw [countTimer_fires_of_event hen (gpi7_eventMode _), hevents]
      simp [hen, Five.get, hcounter]
    · have hidle := countTimer_of_idle (.inl (Bool.eq_false_iff.2 hen))
      simp [hidle, hen]
  case timerA =>
    rw [irq_dispatched_iff hexec, countTimer_fires_of_event hen hmode, hevents, and_assoc]
    rfl
  case count =>
    have hcount := dmaSample_counter (hostPhase s.noDispatches).ram (hostPhase s.noDispatches).dma
      (hostPhase s.noDispatches).mfp .A
    rw [← hmfp, hostPhase_mfp_of_no_budget hbudget, tickAll_get] at hcount
    refine hcount.trans ?_
    rw [countTimer_counter_of_event hen hmode, hevents]
    rfl
  case b => exact (hended .B).trans (Bool.and_false _)
  case c => exact (hended .C).trans (Bool.and_false _)
  case d => exact (hended .D).trans (Bool.and_false _)

end Sys2Proof.Machine

/-! PROOFS of the family 42_dma_pcm: the register reads and writes, one sample as the rule's loop and its range, the
microwire transfer, and the rotation that reads of the mask register show. -/

namespace Sys2Proof.Machine

open Sys2Proof.Stated

/-! The register reads and the plain writes. -/

/-- A field of a word is the word divided, as far as the field goes. -/
theorem extractLsb'_eq_ofNat_div {w : Nat} (start len : Nat) (x : BitVec w) :
    x.extractLsb' start len = BitVec.ofNat len (x.toNat / 2 ^ start) := by
  rw [BitVec.extractLsb', Nat.shiftRight_eq_div_pow]

/-- Settles O41: the views of the pointer by its bytes, every other register by its stored byte. -/
theorem dmaRegisterReads : Obligations.DmaRegisterReads := by
  intro s off _
  have hhi : s.dma.cur.extractLsb' 16 8 = BitVec.ofNat 8 (s.dma.cur.toNat / 65536) := extractLsb'_eq_ofNat_div 16 8 _
  have hmid : s.dma.cur.extractLsb' 8 8 = BitVec.ofNat 8 (s.dma.cur.toNat / 256) := extractLsb'_eq_ofNat_div 8 8 _
  have hlo : s.dma.cur.extractLsb' 0 8 = BitVec.ofNat 8 s.dma.cur.toNat := rfl
  rw [← hhi, ← hmid, ← hlo]
  exact ⟨rfl, rfl, rfl, rfl, rfl, rfl, rfl, rfl, rfl, rfl, rfl, rfl, rfl, rfl⟩

/-- Settles O42: each of these writes is one field's update, or none. -/
theorem dmaStorageWrites : Obligations.DmaStorageWrites := fun _ _ _ _ =>
  ⟨rfl, rfl, rfl, rfl, rfl, rfl, rfl, rfl, rfl, rfl, rfl, rfl, rfl, rfl⟩

/-- R410: the control write as the rule has it: the play bit goes through the mask of CTRL, so both see one edge. -/
theorem writeCtrl_eq_stated (d : Dma) (v : Byte) : d.writeCtrl v = Stated.playControl d v := by
  have hedge : (!d.play && ({ d with ctrl := v &&& 0x03 } : Dma).play) = true ↔
      d.ctrl.getLsbD 0 = false ∧ v.getLsbD 0 = true := by
    simp [Dma.play]
  exact if_congr hedge rfl rfl

/-- Settles O43: CTRL_W8 is the control write. -/
theorem playControl : Obligations.PlayControl := by
  intro s v
  rw [← writeCtrl_eq_stated]
  rfl

/-! One DMA-PCM sample as the rule's loop. -/

theorem fetch_eq_stated (ram : List Host.Cell) (d : Dma) : Stated.fetch ram d = d.fetch ram := by
  have hpair : d.cur + 1 + 1 = d.cur + 2 := BitVec.add_assoc d.cur 1 1
  unfold Stated.fetch Dma.fetch
  rw [hpair]
  rfl

theorem toNat_of_two_bits : ∀ x : BitVec 2, x.toNat = 2 * (x.getLsbD 1).toNat + (x.getLsbD 0).toNat := by
  decide

/-- R35: the rate selector is the number of the two low bits of MODE. -/
theorem rateSel_eq_bits (d : Dma) : d.rateSel = 2 * (d.mode.getLsbD 1).toNat + (d.mode.getLsbD 0).toNat := by
  rw [Dma.rateSel, toNat_of_two_bits]
  simp

/-- R423: the double-rate mode is that of both selector bits set. -/
theorem rateSel_eq_three_iff (d : Dma) :
    d.rateSel = 3 ↔ d.mode.getLsbD 1 = true ∧ d.mode.getLsbD 0 = true := by
  rw [rateSel_eq_bits]
  cases d.mode.getLsbD 1 <;> cases d.mode.getLsbD 0 <;> decide

theorem dmaRate_rateSel (d : Dma) : dmaRate d.rateSel = rate d.mode := by
  rw [rateSel_eq_bits, rate]
  cases d.mode.getLsbD 1 <;> cases d.mode.getLsbD 0 <;> rfl

theorem hear_eq_stated (d : Dma) (f : Int) : Stated.hear d f = d.hear f := by
  unfold Stated.hear
  by_cases hrate : d.rateSel = 3
  · rw [if_pos ((rateSel_eq_three_iff d).1 hrate)]
    by_cases hparity : d.parity = true
    · rw [if_pos hparity, ← hear_level_of_pair hrate hparity, Dma.hear, if_pos hrate, if_pos hparity]
    · rw [if_neg hparity, Dma.hear, if_pos hrate, if_neg hparity]
  · rw [if_neg (mt (rateSel_eq_three_iff d).2 hrate), Dma.hear, if_neg hrate]

/-- R421: after a buffer end the channel plays on exactly if it loops. -/
theorem bufferEnd_play {d : Dma} (hplay : d.play = true) : d.bufferEnd.play = d.loop := by
  rcases bufferEnd_cases d with ⟨hloop, heq⟩ | ⟨hloop, heq⟩ <;> rw [heq, hloop]
  · exact hplay
  · simp [Dma.play]

/-- The channel with its next frame fetched and heard, before the end of the buffer is looked at (R420). -/
def Dma.nextFrame (ram : List Host.Cell) (d : Dma) : Dma :=
  (({ d with acc := d.acc - d.host } : Dma).fetch ram).1.hear (({ d with acc := d.acc - d.host } : Dma).fetch ram).2

theorem dmaFrame_eq (ram : List Host.Cell) (d : Dma) (m : Mfp) : dmaFrame ram d m =
    if (d.nextFrame ram).endp.toNat ≤ (d.nextFrame ram).cur.toNat then ((d.nextFrame ram).bufferEnd, m.bufferEnd)
    else (d.nextFrame ram, m) := rfl

theorem statedFrame_eq_nextFrame (ram : List Host.Cell) (d : Dma) :
    Stated.hear (Stated.fetch ram { d with acc := d.acc - d.host }).1
      (Stated.fetch ram { d with acc := d.acc - d.host }).2 = d.nextFrame ram := by
  rw [fetch_eq_stated, hear_eq_stated, Dma.nextFrame]

theorem nextFrame_play (ram : List Host.Cell) (d : Dma) : (d.nextFrame ram).play = d.play := by
  obtain ⟨hctrl, -, -⟩ := fetch_hear_frame ram { d with acc := d.acc - d.host }
    (({ d with acc := d.acc - d.host } : Dma).fetch ram).2
  exact congrArg (·.getLsbD 0) hctrl

theorem nextFrame_acc (ram : List Host.Cell) (d : Dma) : (d.nextFrame ram).acc = d.acc - d.host := by
  obtain ⟨-, -, hacc⟩ := fetch_hear_frame ram { d with acc := d.acc - d.host }
    (({ d with acc := d.acc - d.host } : Dma).fetch ram).2
  exact hacc

/-- A turn that leaves the channel playing has taken one frame's worth of its clock (R420, R421). -/
theorem dmaFrame_acc_of_play (ram : List Host.Cell) {d : Dma} (hplay : d.play = true) (m : Mfp)
    (hplays : (dmaFrame ram d m).1.play = true) : (dmaFrame ram d m).1.acc = d.acc - d.host := by
  rw [dmaFrame_eq] at hplays ⊢
  split at hplays
  next hend =>
    rw [bufferEnd_play ((nextFrame_play ram d).trans hplay)] at hplays
    rw [if_pos hend, Dma.bufferEnd, if_pos hplays]
    exact nextFrame_acc ram d
  next hend => rw [if_neg hend, nextFrame_acc]

/-- R424: what a channel that plays puts out. -/
def Dma.output (d : Dma) : Int := d.level * d.masterVol * 4

/-- What a sample of a playing channel answers after the turns of its loop: the output, or 0 if a buffer end stopped the
channel (R420, R424). -/
def afterLoop (r : Dma × Mfp) : Dma × Mfp × Int := (r.1, r.2, if r.1.play = true then r.1.output else 0)

theorem afterLoop_of_play {r : Dma × Mfp} (hplay : r.1.play = true) : afterLoop r = (r.1, r.2, r.1.output) := by
  rw [afterLoop, if_pos hplay]

theorem afterLoop_of_stopped {r : Dma × Mfp} (hstopped : ¬r.1.play = true) : afterLoop r = (r.1, r.2, 0) := by
  rw [afterLoop, if_neg hstopped]

theorem dmaSample_of_play (ram : List Host.Cell) {d : Dma} (hplay : d.play = true) (m : Mfp) :
    dmaSample ram d m = afterLoop (dmaLoop ram (d.advance.acc / d.host) d.advance m) := if_pos hplay

theorem dmaSample_of_stopped (ram : List Host.Cell) {d : Dma} (hstopped : ¬d.play = true) (m : Mfp) :
    dmaSample ram d m = ({ d with level := 0 }, m, 0) := if_neg hstopped

/-- With less than one frame of the clock left the loop is over (R420). -/
theorem statedLoop_of_not_due (ram : List Host.Cell) {d : Dma} (hplay : d.play = true) (hdue : d.acc < d.host)
    (m : Mfp) (n : Nat) : Stated.dmaLoop ram n d m = afterLoop (dmaLoop ram (d.acc / d.host) d m) := by
  rw [Nat.div_eq_of_lt hdue, Machine.dmaLoop, afterLoop_of_play hplay]
  cases n with
  | zero => rfl
  | succ n => exact if_neg hdue.not_ge

/-- One turn of the rule's loop is one frame; it goes on while the channel plays, and else returns 0 (R420). -/
theorem statedLoop_of_due (ram : List Host.Cell) {d : Dma} (hplay : d.play = true) (hdue : d.host ≤ d.acc) (m : Mfp)
    (n : Nat) : Stated.dmaLoop ram (n + 1) d m =
      if (dmaFrame ram d m).1.play = true then Stated.dmaLoop ram n (dmaFrame ram d m).1 (dmaFrame ram d m).2
      else ((dmaFrame ram d m).1, (dmaFrame ram d m).2, 0) := by
  simp only [Stated.dmaLoop, if_pos hdue, statedFrame_eq_nextFrame, dmaFrame_eq]
  split
  next => rfl
  next => rw [nextFrame_play, if_pos hplay]

/-- R420: the rule's loop, given enough turns, makes those of the quotient. -/
theorem statedLoop_eq (ram : List Host.Cell) : ∀ (fuel : Nat) (d : Dma) (m : Mfp), 1 ≤ d.host → d.play = true →
    d.acc ≤ fuel → Stated.dmaLoop ram fuel d m = afterLoop (dmaLoop ram (d.acc / d.host) d m)
  | 0, _, m, hhost, hplay, hfuel => statedLoop_of_not_due ram hplay (hfuel.trans_lt hhost) m 0
  | fuel + 1, d, m, hhost, hplay, hfuel => by
    by_cases hdue : d.host ≤ d.acc
    · rw [statedLoop_of_due ram hplay hdue, Nat.div_eq_sub_div hhost hdue, Machine.dmaLoop]
      split
      next hplays =>
        have hacc := dmaFrame_acc_of_play ram hplay m hplays
        rw [statedLoop_eq ram fuel _ _ ((dmaFrame_host ram d m).symm ▸ hhost) hplays (by omega), hacc, dmaFrame_host]
      next hstopped => rw [afterLoop_of_stopped hstopped]
    · exact statedLoop_of_not_due ram hplay (not_le.1 hdue) m (fuel + 1)

/-- R420: the rule's sample is the model's. -/
theorem dmaLoopSample_eq_dmaSample {s : State} (hhost : 1 ≤ s.dma.host) :
    dmaLoopSample s = dmaSample s.ram s.dma s.mfp := by
  rw [dmaLoopSample, ← dmaRate_rateSel]
  split
  next hplay =>
    rw [dmaSample_of_play s.ram hplay]
    exact statedLoop_eq s.ram _ s.dma.advance s.mfp hhost hplay le_rfl
  next hstopped => exact (dmaSample_of_stopped s.ram hstopped s.mfp).symm

/-- R424: the product of a level and a volume in their ranges, times four. -/
theorem DmaOk.output_bounds {d : Dma} (h : DmaOk d) : -65536 ≤ d.output ∧ d.output ≤ 65024 := by
  obtain ⟨hlo, hhi⟩ := h.level
  have hvol : (d.masterVol : Int) ≤ 64 := by exact_mod_cast h.masterVol
  unfold Dma.output
  constructor <;> nlinarith [d.masterVol.cast_nonneg (α := Int)]

/-- R424: a sample is what the channel it leaves puts out, or 0. -/
theorem dmaSample_value_cases (ram : List Host.Cell) (d : Dma) (m : Mfp) :
    (dmaSample ram d m).2.2 = (dmaSample ram d m).1.output ∨ (dmaSample ram d m).2.2 = 0 := by
  by_cases hplay : d.play = true
  · rw [dmaSample_of_play ram hplay]
    exact ite_eq_or_eq _ _ _
  · rw [dmaSample_of_stopped ram hplay]
    exact .inr rfl

/-- Settles O44: the loop is the quotient's turns, and the sample is 0 or the output of a channel in its ranges. (The
obligation's own name is the model's function.) -/
theorem dmaSampleIsTheRulesLoop : Obligations.DmaSample := by
  intro s hhost
  rw [dmaLoopSample_eq_dmaSample hhost]
  refine ⟨rfl, fun h => ?range⟩
  case range =>
    rcases dmaSample_value_cases s.ram s.dma s.mfp with heq | heq <;> rw [heq]
    · exact (h.sample s.ram s.mfp).output_bounds
    · decide

/-! The microwire transfer. -/

/-- The digits of a number are the list's, the last one the lowest. -/
theorem testBit_bitsValue (bits : List Bool) : ∀ i, (bitsValue bits).testBit i = bits.reverse.getD i false := by
  induction bits using List.reverseRecOn with
  | nil => simp [bitsValue]
  | append_singleton bits b ih =>
    have hvalue : bitsValue (bits ++ [b]) = Nat.bit b (bitsValue bits) := by
      rw [Nat.bit_val, bitsValue, List.foldl_append]
      rfl
    rw [hvalue, List.reverse_concat]
    rintro (_ | i)
    · simp
    · rw [Nat.testBit_bit_succ, ih]
      rfl

/-- An entry of the first `n` images of a list is the image of the list's entry. -/
theorem getD_take_map {α β : Type} (f : α → β) {l : List α} {n i : Nat} (hi : i < n) (hl : i < l.length) {x : α}
    {y : β} : ((l.map f).take n).getD i y = f (l.getD i x) := by
  have htaken : i < ((l.map f).take n).length := by
    rw [List.length_take, List.length_map]
    exact lt_min hi hl
  rw [List.getD_eq_getElem _ _ htaken, List.getElem_take, List.getElem_map, List.getD_eq_getElem _ _ hl]

/-- R440: with eleven bits or more under the mask, the command is the number of the last eleven. -/
theorem mwCommand_eq_some {data mask : BitVec 16} {cmd : BitVec 11} (hcmd : IsCommand data mask cmd)
    (hlen : 11 ≤ (maskBits mask).length) : mwCommand data mask = some cmd.toNat := by
  have hbits : mwBits data mask = (maskBits mask).map fun j => data.getLsbD j := rfl
  have hcount : 11 ≤ (mwBits data mask).length := by rwa [hbits, List.length_map]
  have hvalue : bitsValue ((mwBits data mask).drop ((mwBits data mask).length - 11)) = cmd.toNat := by
    refine Nat.eq_of_testBit_eq fun i => ?_
    rw [testBit_bitsValue, ← List.take_reverse, BitVec.testBit_toNat, hbits, ← List.map_reverse]
    by_cases hi : i < 11
    · rw [hcmd i hi, getD_take_map _ hi (by rw [List.length_reverse]; omega)]
    · rw [BitVec.getLsbD_of_ge cmd i (not_lt.1 hi), List.getD_eq_default]
      exact (List.length_take_le _ _).trans (not_lt.1 hi)
  exact (if_pos hcount).trans (congrArg some hvalue)

theorem mwCommand_eq_none {data mask : BitVec 16} (hlen : ¬11 ≤ (maskBits mask).length) :
    mwCommand data mask = none := by
  have hcount : ¬11 ≤ (mwBits data mask).length := by rwa [mwBits, List.length_map]
  exact if_neg hcount

/-- R440: what a transfer does to the master volume, `cmd` being the command if there is one. -/
theorem mwVolume_of_isCommand {data mask : BitVec 16} {cmd : BitVec 11} (hcmd : IsCommand data mask cmd) (vol : Nat) :
    ((mwCommand data mask).bind mwVolume).getD vol =
      if 11 ≤ (maskBits mask).length ∧ cmd.toNat / 512 = 2 ∧ cmd.toNat / 64 % 8 = 3
      then min (cmd.toNat % 64) 40 * 64 / 40 else vol := by
  by_cases hlen : 11 ≤ (maskBits mask).length
  · rw [mwCommand_eq_some hcmd hlen, Option.bind_some, mwVolume]
    by_cases haddressed : cmd.toNat / 512 = 2 ∧ cmd.toNat / 64 % 8 = 3
    · rw [if_pos haddressed, if_pos ⟨hlen, haddressed⟩]
      rfl
    · rw [if_neg haddressed, if_neg fun h => haddressed h.2]
      rfl
  · rw [mwCommand_eq_none hlen, if_neg fun h => hlen h.1]
    rfl

/-- Settles O45: the transfer sets the volume that the command carries, or leaves it. -/
theorem microwireTransfer : Obligations.MicrowireTransfer := by
  intro s v cmd hcmd
  rw [← mwVolume_of_isCommand hcmd]
  rfl

/-! The mask register's rotation. -/

/-- A bit of a halfword rotated left is the bit as many places below, counted round. -/
theorem getLsbD_rotateLeft_mod (x : BitVec 16) {r j : Nat} (hj : j < 16) :
    (x.rotateLeft r).getLsbD j = x.getLsbD ((j + 16 - r % 16) % 16) := by
  rw [BitVec.getLsbD_rotateLeft]
  by_cases hround : j < r % 16
  · have hplace : (j + 16 - r % 16) % 16 = 16 - r % 16 + j := by omega
    rw [decide_eq_true hround, cond_true, hplace]
  · have hplace : (j + 16 - r % 16) % 16 = j - r % 16 := by omega
    rw [decide_eq_false hround, cond_false, decide_eq_true hj, Bool.true_and, hplace]

/-- R441: the bits that the mask reads show, the busy count being `mwPending`. -/
theorem getLsbD_mwRot (d : Dma) {j : Nat} (hj : j < 16) :
    d.mwRot.getLsbD j = (d.mwMaskHi ++ d.mwMaskLo).getLsbD ((j + 16 - (16 - d.mwPending) % 16) % 16) := by
  rw [Dma.mwRot, getLsbD_rotateLeft_mod _ hj, Nat.mod_mod]
  rfl

/-- Settles O46: each read gives its byte of the rotation, the high one after the count is taken down. -/
theorem maskReadsShowTheRotation : Obligations.MaskReadsShowTheRotation := by
  intro s
  refine ⟨_, _, rfl, rfl, fun j hj => ⟨?high, ?low⟩⟩
  case high =>
    rw [BitVec.getLsbD_extractLsb', decide_eq_true hj, Bool.true_and]
    exact getLsbD_mwRot s.dma.shiftOnce (by omega)
  case low =>
    rw [BitVec.getLsbD_extractLsb', decide_eq_true hj, Bool.true_and, Nat.zero_add]
    exact getLsbD_mwRot s.dma (by omega)

/-! Reading the mask register until the transfer is over. -/

/-- A halfword read of the mask register: one from the busy count, then the mask in its rotation (R441). -/
def maskRead (s : State) : State :=
  ({ s with dma := s.dma.shiftOnce } : State).give (.half s.dma.shiftOnce.mwRot)

/-- The low byte's read sees the count that the high byte's has left (R480). -/
theorem runPseudo_maskRead (s : State) : runPseudo s (.r16 0xFF8924) = maskRead s := by
  have hhigh : busRead8 s 0xFF8924 =
      ({ s with dma := s.dma.shiftOnce }, s.dma.shiftOnce.mwRot.extractLsb' 8 8) := rfl
  have hlow : busRead8 { s with dma := s.dma.shiftOnce } (0xFF8924 + 1) =
      ({ s with dma := s.dma.shiftOnce }, s.dma.shiftOnce.mwRot.extractLsb' 0 8) := rfl
  rw [runPseudo, busRead16, hhigh, hlow, highByte_append_lowByte]
  rfl

theorem run_succ_of_step {s t : State} (hstep : step s = .next t) (n : Nat) : run (n + 1) s = run n t := by
  rw [run, hstep]

/-- In a valid session whose next requests are mask reads, each step takes one from the busy count and shows the
rotation that this gives; the rest of the block stays (R441). -/
theorem run_maskReads : ∀ (k : Nat) (s : State), s.sys.invalid = false →
    s.env.queue = List.replicate (k + 1) (.pseudo (.r16 0xFF8924)) → ∃ u, run (k + 1) s = some u ∧
      u.dma = { s.dma with mwPending := s.dma.mwPending - (k + 1) } ∧ u.out = .half u.dma.mwRot
  | 0, s, hvalid, hqueue => by
    rw [run_succ_of_step (step_pseudo hvalid hqueue), runPseudo_maskRead]
    exact ⟨_, rfl, rfl, rfl⟩
  | k + 1, s, hvalid, hqueue => by
    rw [run_succ_of_step (step_pseudo hvalid hqueue), runPseudo_maskRead]
    obtain ⟨u, hrun, hdma, hout⟩ :=
      run_maskReads k (maskRead (dequeued s (List.replicate (k + 1) (.pseudo (.r16 0xFF8924))))) hvalid rfl
    refine ⟨u, hrun, hdma.trans ?_, hout⟩
    have hcount : s.dma.mwPending - 1 - (k + 1) = s.dma.mwPending - (k + 1 + 1) := by omega
    rw [← hcount]
    rfl

/-- Settles O47: sixteen reads take the busy count of a transfer to 0, and the rotation by 16 places less the count
comes round. -/
theorem sixteenMaskReads : Obligations.SixteenMaskReads := by
  intro s t v k hexec hvalid hqueue
  obtain rfl : { s with dma := s.dma.writeMwDataLo v } = t := Host.Outcome.next.inj hexec
  obtain ⟨u, hrun, hdma, hout⟩ := run_maskReads k { s with dma := s.dma.writeMwDataLo v } hvalid hqueue
  have hmask : u.dma.mwMask = s.dma.mwMaskHi ++ s.dma.mwMaskLo := by rw [hdma]; rfl
  have hcount : u.dma.mwPending = 16 - (k + 1) := by rw [hdma]; rfl
  have hplaces : (16 - (16 - (k + 1))) % 16 = if k < 15 then k + 1 else 0 := by split <;> omega
  refine ⟨u, hrun, hout.trans ?rotation, ?stored⟩
  case rotation => rw [Dma.mwRot, hmask, hcount, hplaces]
  case stored => rw [hdma]; rfl

end Sys2Proof.Machine

/-! PROOFS of the family 43_sample_step: one output sample in the rule's order, the dispatches it makes and the range of
its output; dispatches to the host, uploads, calls and renders; and what no operation reads. -/

namespace Sys2Proof.Machine

open Sys2Proof.Stated

/-! One output sample in the rule's order. -/

theorem vector_eq_vec (t : TimerId) : vector t = vec t := by
  cases t <;> rfl

/-- R505, R612: the first timer of the list is dispatched if it fired, then the others. -/
theorem irqDispatches_cons (fired : Five Bool) (t : TimerId) (ts : List TimerId) (s : State) :
    irqDispatches fired (t :: ts) s = irqDispatches fired ts (irq (fired.get t) t s) := by
  rw [irqDispatches, irq, hostDispatch_eq_dispatch, vector_eq_vec]

/-- R512: the diagnostic word as the statements write it. -/
theorem visWord_eq_diagnosticWord (p : Psg) (d : Dma) : visWord p d = diagnosticWord p d := by
  simp only [visWord, diagnosticWord, Psg.coarse, gatedIndex_eq_stated]
  rfl

/-- R501: the model's sample is the statements' one. -/
theorem sampleStep_eq_sysSample (s : State) : sampleStep s = sysSample s := by
  simp only [sampleStep, hostPhase, playerTick_eq_player, allTimers, irqDispatches_cons, devicePhase,
    visWord_eq_diagnosticWord]
  rfl

/-- The state after SYS_SAMPLE (R501). -/
def State.sampled (s : State) : State :=
  (sampleStep s.noDispatches).1.give (.sample (sampleStep s.noDispatches).2)

theorem exec_sysSample (s : State) : exec .sysSample s = .next s.sampled := rfl

/-- Settles O51: the host's part and the devices' part, one after the other, are R501's order. -/
theorem outputSample : Obligations.OutputSample := by
  intro s
  rw [exec_sysSample, State.sampled, sampleStep_eq_sysSample]
  rfl

/-! The record of a sample's dispatches, row by row. -/

/-- What the recorded dispatches were for, where to and with which budget, in order. -/
def State.dispatchRows (s : State) : List (DispatchKind × Addr × Nat) :=
  s.env.dispatched.map fun r => (r.kind, r.target, r.budget)

theorem hostDispatch_rows (kind : DispatchKind) (target : Addr) (arg budget : Nat) (s : State) :
    (hostDispatch kind target arg budget s).dispatchRows = s.dispatchRows ++ [(kind, target, budget)] :=
  List.map_append

/-- R505, R612: the interrupt dispatches add a row for each timer of the list that fired. -/
theorem irqDispatches_rows (fired : Five Bool) : ∀ (ts : List TimerId) (s : State),
    (irqDispatches fired ts s).dispatchRows =
      s.dispatchRows ++ (ts.filter fired.get).map fun x => (.irq x, vec x, s.song.irqBudget)
  | [], s => (List.append_nil _).symm
  | t :: ts, s => by
    rw [irqDispatches, irqDispatches_rows fired ts]
    by_cases hfired : fired.get t = true
    · obtain ⟨-, hsong, -⟩ := hostDispatch_frame (.irq t) (vector t) 0 s.song.irqBudget s
      rw [if_pos hfired, hostDispatch_rows, hsong, List.filter_cons_of_pos hfired, List.map_cons, vector_eq_vec,
        List.append_assoc, List.singleton_append]
    · rw [if_neg hfired, List.filter_cons_of_neg hfired]

/-- R504: the player tick's row, in samples whose index is a multiple of SPT. -/
theorem playerTick_rows (s : State) : (playerTick s.noDispatches).dispatchRows =
    if s.sys.n % s.song.spt = 0 then [(.player, s.song.playerEntry, s.song.tickBudget)] else [] := by
  simp only [playerTick, State.playerDue, beq_iff_eq, noDispatches_sys, noDispatches_song]
  split
  · exact hostDispatch_rows ..
  · rfl

/-- Settles O52: the player tick's row first, then those of the timers whose ticks fired in the state it left. -/
theorem dispatchesOfASample : Obligations.DispatchesOfASample := by
  intro s t hexec
  obtain ⟨henv, -⟩ := env_mfp_of_exec_sysSample hexec
  have hfired : (player s).mfp.tickAll.2.get = fun x => ((player s).mfp.tick x).2 :=
    funext fun x => tickAll_fired (player s).mfp x
  calc t.dispatchRows = (hostPhase s.noDispatches).dispatchRows := by rw [State.dispatchRows, henv]; rfl
    _ = (playerTick s.noDispatches).dispatchRows ++ (allTimers.filter (player s).mfp.tickAll.2.get).map
          fun x => (.irq x, vec x, (playerTick s.noDispatches).song.irqBudget) := by
      rw [hostPhase, irqDispatches_rows, playerTick_noDispatches_mfp]
      rfl
    _ = _ := by rw [playerTick_rows, playerTick_song, hfired, noDispatches_song]

/-! The range of the output. -/

/-- What bus transactions and timer ticks keep of the parts, the host's part of a sample keeps. -/
theorem PartInvariants.hostPhase {R : List Host.Cell → Prop} {C : Psg → Prop} {M : Mfp → Prop} {D : Dma → Prop}
    (inv : PartInvariants R C M D) (s : State) (h : Parts R C M D s) : Parts R C M D (hostPhase s) :=
  hostPhase_keeps (Parts R C M D) inv.busRead8 inv.busWrite8 (fun _ _ h => h) inv.tickAll s h

/-- R265: the range of a sound chip's sample, from the settled rule of PSG_SAMPLE. -/
theorem psgSample_bounds {s : State} (h : PsgOk s.psg) :
    -(3 * 65535) ≤ s.psg.sample.2 ∧ s.psg.sample.2 ≤ 3 * 65535 := by
  obtain ⟨t, raw, out, hexec, -, -, ht, -, -, hlo, hhi⟩ := soundChipSample s h
  have hgiven : .sample s.psg.sample.2 = t.out := by cases hexec; rfl
  have hout : s.psg.sample.2 = out := Result.sample.inj (hgiven.trans (by rw [ht]))
  rw [hout]
  exact ⟨hlo, hhi⟩

/-- R424: the range of a sound channel's sample, from the settled rule of DMA_SAMPLE. -/
theorem dmaSample_bounds {s : State} (h : DmaOk s.dma) :
    -65536 ≤ (dmaSample s.ram s.dma s.mfp).2.2 ∧ (dmaSample s.ram s.dma s.mfp).2.2 ≤ 65024 := by
  obtain ⟨-, hrange⟩ := dmaSampleIsTheRulesLoop s h.host
  rw [dmaLoopSample_eq_dmaSample h.host] at hrange
  exact hrange h

theorem clamp_bounds {lo hi : Int} (hle : lo ≤ hi) (v : Int) : lo ≤ clamp v lo hi ∧ clamp v lo hi ≤ hi :=
  ⟨le_min (le_max_right v lo) hle, min_le_right _ hi⟩

/-- Settles O53: the host's part keeps both devices sound, so their samples are in range; the clamp does the rest. -/
theorem outputIsClamped : Obligations.OutputIsClamped := by
  intro s hs
  have inv := PartInvariants.mk ramInvariant_true psgInvariant_psgOk mfpInvariant_true dmaInvariant_dmaOk
  obtain ⟨-, hpsg, -, hdma⟩ := inv.hostPhase s.noDispatches ⟨trivial, hs.psg, trivial, hs.dma⟩
  obtain ⟨hymLo, hymHi⟩ := psgSample_bounds hpsg
  obtain ⟨hdmaLo, hdmaHi⟩ := dmaSample_bounds hdma
  obtain ⟨houtLo, houtHi⟩ := clamp_bounds (lo := -32768) (hi := 32767) (by decide)
    ((hostPhase s.noDispatches).psg.sample.2 + (dmaSample (hostPhase s.noDispatches).ram
      (hostPhase s.noDispatches).dma (hostPhase s.noDispatches).mfp).2.2)
  exact ⟨_, _, _, _, exec_sysSample s, rfl, rfl, rfl, hymLo, hymHi, hdmaLo, hdmaHi, rfl, houtLo, houtHi⟩

/-! Dispatches to the host. -/

theorem sameClocks_refl (s : State) : SameClocks s s :=
  ⟨rfl, rfl, rfl, rfl, rfl, rfl, rfl, rfl, rfl, rfl, rfl, fun _ _ => rfl, rfl, rfl, rfl, rfl⟩

theorem mfpWrite8_host (m : Mfp) (off v : Byte) : (m.write8 off v).host = m.host := by
  unfold Mfp.write8
  split <;> rfl

theorem writeCtrl_host (d : Dma) (v : Byte) : (d.writeCtrl v).host = d.host := by
  unfold Dma.writeCtrl
  dsimp only
  split <;> rfl

theorem dmaWrite8_host (d : Dma) (off v : Byte) : (d.write8 off v).host = d.host := by
  unfold Dma.write8
  split
  case h_1 => exact writeCtrl_host d v
  all_goals rfl

/-- A byte read reaches none of what only device operations change. -/
theorem sameClocks_busRead8 {s t : State} (h : SameClocks t s) (a : Addr) : SameClocks (busRead8 t a).1 s := by
  rw [busRead8_eq]
  exact h

/-- A write to the sound chip's window changes its registers, the select and the envelope at most. -/
theorem psgWrite8_eq (p : Psg) (off v : Byte) : ∃ regs sel envPos envCnt,
    p.write8 off v = { p with regs := regs, sel := sel, envPos := envPos, envCnt := envCnt } := by
  rcases psgWrite8_cases p off v with hw | hw | hw <;> rw [hw]
  · exact ⟨_, _, _, _, rfl⟩
  · exact ⟨_, _, _, _, rfl⟩
  · rw [writeReg_eq]
    exact ⟨_, _, _, _, rfl⟩

/-- A byte write reaches none of what only device operations change. -/
theorem sameClocks_busWrite8 {s t : State} (h : SameClocks t s) (a : Addr) (v : Byte) :
    SameClocks (busWrite8 t a v) s := by
  rcases busWrite8_cases t a v with ⟨-, hw⟩ | ⟨-, hw⟩ | ⟨-, hw⟩ | ⟨-, hw⟩ | ⟨-, hw⟩ <;> rw [hw]
  case inr.inl =>
    obtain ⟨regs, sel, envPos, envCnt, heq⟩ := psgWrite8_eq t.psg (offsetOf a) v
    rw [heq]
    exact h
  case inr.inr.inl =>
    simpa only [SameClocks, dmaWrite8_host] using h
  case inr.inr.inr.inl =>
    simpa only [SameClocks, mfpWrite8_host, mfpWrite8_event] using h
  all_goals exact h

/-- R503: a dispatch clocks no device. -/
theorem sameClocks_hostDispatch (kind : DispatchKind) (target : Addr) (arg budget : Nat) (s : State) :
    SameClocks (hostDispatch kind target arg budget s) s :=
  hostDispatch_keeps (fun t => SameClocks t s) (fun _ a h => sameClocks_busRead8 h a)
    (fun _ a v h => sameClocks_busWrite8 h a v) (fun _ _ h => h) kind target arg budget s (sameClocks_refl s)

/-- The state with another busy count of the microwire. -/
def State.withBusyCount (s : State) (n : Nat) : State := { s with dma := { s.dma with mwPending := n } }

/-- A read changes the microwire's busy count at most (R82). -/
theorem hostTx_of_read {x : BusTx} (hread : isRead x = true) (s : State) :
    ∃ n, (hostTx s x).1 = s.withBusyCount n := by
  cases x with
  | read a => exact ⟨_, busRead8_eq s a⟩
  | write a v => cases hread

theorem hostTxs_of_reads : ∀ (xs : List BusTx) (s : State), (∀ x ∈ xs, isRead x = true) →
    ∃ n, (hostTxs s xs).1 = s.withBusyCount n
  | [], s, _ => ⟨s.dma.mwPending, rfl⟩
  | x :: xs, s, hreads => by
    obtain ⟨m, hm⟩ := hostTx_of_read (hreads x List.mem_cons_self) s
    obtain ⟨n, hn⟩ := hostTxs_of_reads xs (hostTx s x).1 fun y hy => hreads y (List.mem_cons_of_mem x hy)
    refine ⟨n, hn.trans ?_⟩
    rw [hm]
    rfl

/-- R503: with only reads, a dispatch changes the microwire's busy count and the environment at most. -/
theorem hostDispatch_of_reads {s : State} (hreads : ((planned s).steps.all fun xs => xs.all isRead) = true)
    (kind : DispatchKind) (target : Addr) (arg budget : Nat) :
    hostDispatch kind target arg budget s =
      { s with
        dma := { s.dma with mwPending := (hostDispatch kind target arg budget s).dma.mwPending }
        env := (hostDispatch kind target arg budget s).env } := by
  have htaken : ∀ x ∈ ((planned s).steps.take budget).flatten, isRead x = true := by
    simp only [List.all_eq_true] at hreads
    intro x hx
    obtain ⟨xs, hxs, hx⟩ := List.mem_flatten.1 hx
    exact hreads xs (List.mem_of_mem_take hxs) x hx
  obtain ⟨n, hn⟩ := hostTxs_of_reads _ s htaken
  simp only [hostDispatch, nextRun_eq_planned, hostSteps_eq, hn]
  rfl

/-- The host's transactions do the same whatever the environment holds. -/
theorem transacts_withEnv (s : State) (e : Env) (xs : List BusTx) :
    transacts (s.withEnv e) xs = ((transacts s xs).1.withEnv e, (transacts s xs).2) := by
  simp only [transacts, foldl_transact_eq, hostTxs_withEnv]

/-- R503: a dispatch whose budget ends before the host's last step is that of the steps before the cut, not returned. -/
theorem hostDispatch_of_cut {s : State} {xs ys : List (List BusTx)} {returns : Bool} {rest : List HostRun}
    (hruns : s.env.runs = ⟨xs ++ ys, returns⟩ :: rest) (hys : ys ≠ []) (kind : DispatchKind) (target : Addr)
    (arg : Nat) : hostDispatch kind target arg xs.length s =
      hostDispatch kind target arg xs.length (s.withEnv { s.env with runs := ⟨xs, false⟩ :: rest }) := by
  have hplanned : planned s = ⟨xs ++ ys, returns⟩ := by rw [planned, hruns]; rfl
  have hcut : planned (s.withEnv { s.env with runs := ⟨xs, false⟩ :: rest }) = ⟨xs, false⟩ := rfl
  have hlate : returned ⟨xs ++ ys, returns⟩ xs.length = false := by
    have hlen : ys.length ≠ 0 := mt List.length_eq_zero_iff.1 hys
    simp [returned, hlen]
  simp only [hostDispatch_eq_dispatch, dispatch, hplanned, hcut, hlate, transacts_withEnv, List.take_left,
    List.take_length, hruns]
  rfl

/-- Settles O54: the model's dispatch is the rule's; no transaction reaches a clock, and a read only the busy count. -/
theorem dispatchesClockNoDevice : Obligations.DispatchesClockNoDevice :=
  ⟨fun kind target arg budget s => ⟨hostDispatch_eq_dispatch kind target arg budget s,
      sameClocks_hostDispatch kind target arg budget s,
      fun hreads => hostDispatch_of_reads hreads kind target arg budget⟩,
    fun kind target arg _ _ _ _ _ hruns hys => hostDispatch_of_cut hruns hys kind target arg⟩

/-! Uploads and calls. -/

/-- Settles O56: the blob fits and is stored byte by byte, or it does not and only the session is invalid. -/
theorem upload : Obligations.Upload := by
  intro s blob address q hram hvalid hqueue
  have hstep : step s = .next (runUpload (dequeued s q) blob address) := step_of_queue_cons hvalid hqueue
  have hsize : Config.ramSize = 4194304 := rfl
  rw [hstep, runUpload, hsize]
  split
  next => rfl
  next hfits =>
    exact ⟨_, rfl, rfl, fun b => memRead_memWriteAll blob address b hram (by omega)⟩

/-- Settles O57: the call is one dispatch, recorded alone, and its answer is the record's. -/
theorem callAndWait : Obligations.CallAndWait := by
  intro s entry arg timeout q hvalid hqueue
  have hstep : step s = .next (runCall (dequeued s q) entry arg timeout) := step_of_queue_cons hvalid hqueue
  have hclocks : SameClocks (hostDispatch .call entry arg timeout (dequeued s q).noDispatches) s :=
    sameClocks_hostDispatch .call entry arg timeout (dequeued s q).noDispatches
  refine ⟨_, hstep, hclocks, ?_, rfl⟩
  rw [runCall, hostDispatch_eq_dispatch, nextRun_eq_planned]
  rfl

/-! What no part of a sample reads. -/

/-- The bookkeeping at a dispatch's end (log 10): the planned runs that remain, and one more entry in the record. -/
def State.logDispatch (s : State) (rest : List HostRun) (r : DispatchRec) : State :=
  { s with env := { s.env with runs := rest, dispatched := s.env.dispatched ++ [r] } }

/-- R503: a dispatch is the transactions of the steps its budget allows, and then its record. -/
theorem hostDispatch_eq_logDispatch (kind : DispatchKind) (target : Addr) (arg budget : Nat) (s : State) :
    hostDispatch kind target arg budget s =
      (hostTxs s ((planned s).steps.take budget).flatten).1.logDispatch s.env.runs.tail
        ⟨kind, target, arg, budget, (hostTxs s ((planned s).steps.take budget).flatten).2,
          (planned s).inTime budget⟩ := by
  simp only [hostDispatch, nextRun_eq_planned, hostSteps_eq, State.logDispatch, hostTxs_env]

/-- An edit of the state that touches nothing the host's part of a sample reads: every piece of that part does the same
after it, and passes it on. -/
structure Unread (f : State → State) : Prop where
  mfp : ∀ s, (f s).mfp = s.mfp
  song : ∀ s, (f s).song = s.song
  index : ∀ s, (f s).sys.n = s.sys.n
  runs : ∀ s, (f s).env.runs = s.env.runs
  bus : ∀ s x, hostTx (f s) x = (f (hostTx s x).1, (hostTx s x).2)
  logged : ∀ s rest r, (f s).logDispatch rest r = f (s.logDispatch rest r)
  ticked : ∀ s m, { f s with mfp := m } = f { s with mfp := m }

section Unread
variable {f : State → State} (hf : Unread f)
include hf

theorem Unread.hostTxs : ∀ (xs : List BusTx) (s : State), hostTxs (f s) xs = (f (hostTxs s xs).1, (hostTxs s xs).2)
  | [], _ => rfl
  | x :: xs, s => by simp only [Machine.hostTxs, hf.bus, Unread.hostTxs xs]

theorem Unread.hostDispatch (kind : DispatchKind) (target : Addr) (arg budget : Nat) (s : State) :
    hostDispatch kind target arg budget (f s) = f (hostDispatch kind target arg budget s) := by
  simp only [hostDispatch_eq_logDispatch, planned, hf.runs, hf.hostTxs, hf.logged]

theorem Unread.irqDispatches (fired : Five Bool) : ∀ (ts : List TimerId) (s : State),
    irqDispatches fired ts (f s) = f (irqDispatches fired ts s)
  | [], _ => rfl
  | t :: ts, s => by
    simp only [Machine.irqDispatches, hf.song, hf.hostDispatch, ← apply_ite f, Unread.irqDispatches fired ts]

/-- The host's part of a sample does the same after the edit, and passes it on. -/
theorem Unread.hostPhase (s : State) : hostPhase (f s) = f (hostPhase s) := by
  have hplayer : playerTick (f s) = f (playerTick s) := by
    have hdue : (f s).playerDue = s.playerDue := by rw [State.playerDue, State.playerDue, hf.index, hf.song]
    rw [playerTick, playerTick, hdue, hf.song, hf.hostDispatch, apply_ite f]
  simp only [Machine.hostPhase, hplayer, hf.mfp, hf.ticked, hf.irqDispatches]

end Unread

theorem unread_withVis (w : BitVec 32) : Unread fun s => withVis s w where
  mfp _ := rfl
  song _ := rfl
  index _ := rfl
  runs _ := rfl
  bus s x := by
    cases x with
    | read a => simp only [hostTx, busRead8, withVis]; cases region a <;> rfl
    | write a v => simp only [hostTx, busWrite8, withVis]; cases region a <;> rfl
  logged _ _ _ := rfl
  ticked _ _ := rfl

/-- A sample writes the diagnostic word without having read it (R501, R512). -/
theorem sampleStep_withVis (s : State) (w : BitVec 32) : sampleStep (withVis s w) = sampleStep s := by
  rw [sampleStep, (unread_withVis w).hostPhase]
  rfl

theorem exec_sysSample_withVis (s : State) (w : BitVec 32) : exec .sysSample (withVis s w) = exec .sysSample s := by
  have hnone : (withVis s w).noDispatches = withVis s.noDispatches w := rfl
  rw [exec_sysSample, exec_sysSample, State.sampled, hnone, sampleStep_withVis, State.sampled]

/-- Settles O59: a sample and the whole reset overwrite the word; the other resets pass it on or refuse their operand,
and the remaining operations do not look at SYS. -/
theorem noOperationReadsTheDiagnosticWord : Obligations.NoOperationReadsTheDiagnosticWord := by
  intro i s w
  cases i
  case sysSample => exact exec_sysSample_withVis s w
  case sysReset rate | mfpReset rate | dmaReset rate =>
    cases rate <;> rfl
  case psgReset rate clock =>
    simp only [exec, execPsgReset]
    split
    · rfl
    · split <;> rfl
  all_goals rfl

/-! A render as samples. -/

/-- What a render keeps besides the block's state: the dispatches before the last sample, the buffers, and the result.
-/
structure Books where
  earlier : List DispatchRec
  outBuf : List Int
  visBuf : List (BitVec 32)
  out : Result

/-- The state with a render's books: the dispatches recorded in it come after the books' earlier ones. -/
def State.withBooks (s : State) (b : Books) : State :=
  { s with
    out := b.out
    env := { s.env with
      dispatched := b.earlier ++ s.env.dispatched
      outBuf := b.outBuf
      visBuf := b.visBuf } }

theorem unread_withBooks (b : Books) : Unread fun s => s.withBooks b where
  mfp _ := rfl
  song _ := rfl
  index _ := rfl
  runs _ := rfl
  bus s x := by
    cases x with
    | read a => simp only [hostTx, busRead8, State.withBooks]; cases region a <;> rfl
    | write a v => simp only [hostTx, busWrite8, State.withBooks]; cases region a <;> rfl
  logged s rest r := by simp only [State.logDispatch, State.withBooks, List.append_assoc]
  ticked _ _ := rfl

/-- A sample does the same whatever the books hold, and passes them on. -/
theorem sampleStep_withBooks (s : State) (b : Books) :
    sampleStep (s.withBooks b) = ((sampleStep s).1.withBooks b, (sampleStep s).2) := by
  rw [sampleStep, (unread_withBooks b).hostPhase]
  rfl

/-- The books after one more sample of a render, `s` being the state before it. -/
def Books.next (vis : Bool) (s : State) (b : Books) : Books where
  earlier := b.earlier ++ s.sampled.env.dispatched
  outBuf := b.outBuf ++ [(sampleStep s.noDispatches).2]
  visBuf := b.visBuf ++ if vis then [s.sampled.sys.vis] else []
  out := b.out

/-- R509: one sample of a render is SYS_SAMPLE, but for the books. -/
theorem renderOne_withBooks (vis : Bool) (s : State) (b : Books) :
    renderOne vis (s.noDispatches.withBooks b) = s.sampled.noDispatches.withBooks (b.next vis s) := by
  simp only [renderOne, sampleStep_withBooks]
  simp only [State.withBooks, noDispatches_env_dispatched, List.append_nil]
  rfl

theorem samples_succ {n : Nat} {s u : State} {outs : List Int} {words : List (BitVec 32)}
    (h : samples n s.sampled = some (u, outs, words)) :
    samples (n + 1) s = some (u, (sampleStep s.noDispatches).2 :: outs, s.sampled.sys.vis :: words) := by
  simp only [samples, exec_sysSample, h]
  rfl

/-- R509: `n` samples of a render are `n` SYS_SAMPLE operations, but for the books, to whose buffers their results and,
when asked for, their diagnostic words are added. -/
theorem renderN_withBooks (vis : Bool) : ∀ (n : Nat) (s : State) (b : Books),
    ∃ u outs words earlier, samples n s = some (u, outs, words) ∧
      (renderN vis n (s.noDispatches.withBooks b)).1 =
        u.noDispatches.withBooks ⟨earlier, b.outBuf ++ outs, b.visBuf ++ (if vis then words else []), b.out⟩
  | 0, s, b => ⟨s, [], [], b.earlier, rfl, by simp [renderN]⟩
  | n + 1, s, b => by
    obtain ⟨u, outs, words, earlier, hsamples, hrender⟩ := renderN_withBooks vis n s.sampled (b.next vis s)
    refine ⟨u, _, _, earlier, samples_succ hsamples, ?_⟩
    rw [renderN, renderOne_withBooks, hrender]
    cases vis <;> simp [Books.next]

/-! How often a render's subsong comes round. -/

/-- A sample adds one to the index and leaves the host arguments alone (R501). -/
theorem sampleStep_index_song (s : State) :
    (sampleStep s).1.sys.n = s.sys.n + 1 ∧ (sampleStep s).1.song = s.song := by
  have hhost : (hostPhase s).sys = s.sys ∧ (hostPhase s).song = s.song :=
    hostPhase_keeps (fun t => t.sys = s.sys ∧ t.song = s.song) (fun t a h => by rw [busRead8_eq]; exact h)
      (fun t a v h => by simpa using h) (fun _ _ h => h) (fun _ h => h) s ⟨rfl, rfl⟩
  obtain ⟨hsys, hsong⟩ := hhost
  exact ⟨congrArg (fun x => x.n + 1) hsys, hsong⟩

/-- Whether the player tick of the sample with index `n` is a positive multiple of TICK_COUNT (R509). -/
def Song.loopsAt (song : Song) (n : Nat) : Bool :=
  n % song.spt == 0 && song.tickCount != 0 && n / song.spt != 0 && n / song.spt % song.tickCount == 0

theorem loopsNow_eq_loopsAt (s : State) : s.loopsNow = s.song.loopsAt s.sys.n := by
  rw [Bool.eq_iff_iff]
  simp [State.loopsNow, State.playerDue, Song.loopsAt, and_assoc]

/-- R509: a render counts the samples that begin the subsong anew. -/
theorem renderN_loops (vis : Bool) : ∀ (n : Nat) (s : State),
    (renderN vis n s).2 = (List.range n).countP fun k => s.song.loopsAt (s.sys.n + k)
  | 0, _ => rfl
  | n + 1, s => by
    obtain ⟨hindex, hsong⟩ := sampleStep_index_song s
    have hindex' : (renderOne vis s).sys.n = s.sys.n + 1 := hindex
    have hsong' : (renderOne vis s).song = s.song := hsong
    rw [renderN, renderN_loops vis n, hindex', hsong', loopsNow_eq_loopsAt, List.range_succ_eq_map,
      List.countP_cons, List.countP_map]
    refine congrArg₂ (· + ·) (List.countP_congr fun k _ => ?_) ?_
    · rw [Function.comp_apply, Nat.add_right_comm]
      exact Iff.rfl
    · rw [Bool.toNat, cond_eq_ite]
      rfl

/-- Settles O58: a render's state is that of its samples but for the books, which hold what the samples answered. -/
theorem renderIsManySamples : Obligations.RenderIsManySamples := by
  intro s count vis q hvalid hqueue
  have hstep : step s = .next (runRender (dequeued s q) count vis) := step_of_queue_cons hvalid hqueue
  obtain ⟨u, outs, words, earlier, hsamples, hrender⟩ :=
    renderN_withBooks vis count (dequeued s q) ⟨[], [], [], s.out⟩
  have hbooks : runRender (dequeued s q) count vis =
      (u.noDispatches.withBooks ⟨earlier, [] ++ outs, [] ++ (if vis then words else []), s.out⟩).give
        (.loops ((List.range count).countP fun k => s.song.loopsAt (s.sys.n + k))) := by
    rw [← hrender]
    exact congrArg (fun n => State.give _ (.loops n)) (renderN_loops vis count _)
  rw [hbooks] at hstep
  exact ⟨_, u, outs, words, hstep, hsamples, rfl, rfl, rfl, rfl, rfl, rfl, rfl, rfl, rfl, rfl⟩

end Sys2Proof.Machine

/-! PROOFS of the family 60_exceptions: how a session ends, and that no operation of the block raises an exception. -/

namespace Sys2Proof.Machine

open Sys2Proof.Stated

/-! The steps that run no operation; `step_of_queue_cons` is the rule for those that run one. -/

/-- R601, I11: once an upload was refused, every step is. -/
theorem step_of_invalid {s : State} (hinvalid : s.sys.invalid = true) : step s = .refused .sessionInvalid :=
  if_pos hinvalid

/-- Log 20: with no request waiting a step does nothing. -/
theorem step_of_queue_nil {s : State} (hvalid : s.sys.invalid = false) (hqueue : s.env.queue = []) :
    step s = .next s := by
  simp only [step, runNext, takeRequest, hvalid, hqueue]
  rfl

theorem runRequest_fatal (s : State) (why : HostFatal) : runRequest s (.fatal why) = .fault (.sessionAborted why) := rfl

/-- Settles O7: the session's validity decides first, then the head of the queue. -/
theorem sessionEndsOnFatalConditions : Obligations.SessionEndsOnFatalConditions := by
  refine ⟨?invalid, ?fatal, ?idle⟩
  case invalid => exact fun _ => step_of_invalid
  case fatal =>
    intro s why q hvalid hqueue
    rw [step_of_queue_cons hvalid hqueue, runRequest_fatal]
  case idle => exact fun _ => step_of_queue_nil

/-! The operations (R600). Only the four resets look at their operands before they answer, and well-formedness puts those
in R7's ranges. -/

/-- Settles O8: a reset completes by its own rule, every other operation in every state whatever its operands. -/
theorem everyOperationCompletes : Obligations.EveryOperationCompletes := by
  intro i s hwf
  cases i
  case sysReset rate => exact ⟨_, exec_sysReset (of_decide_eq_true hwf) s⟩
  case mfpReset rate => exact ⟨_, exec_mfpReset (of_decide_eq_true hwf) s⟩
  case dmaReset rate => exact ⟨_, exec_dmaReset (of_decide_eq_true hwf) s⟩
  case psgReset rate clock =>
    obtain ⟨hrate, hclock⟩ := Bool.and_eq_true_iff.mp hwf
    exact ⟨_, exec_psgReset (of_decide_eq_true hrate) (of_decide_eq_true hclock) s⟩
  all_goals exact ⟨_, rfl⟩

end Sys2Proof.Machine

/-! PROOFS of the family 70_reset_and_hazards: the state after reset. -/

namespace Sys2Proof.Machine

/-- SYS_RESET leaves a sound state whatever the state before it was, but for the host argument SPT, which it keeps. -/
theorem sound_sysReset {rate : Nat} (hrate : 1 ≤ rate) {s : State} (hspt : 1 ≤ s.song.spt) :
    Sound (s.sysReset rate) where
  ram := wf_nil
  psg := psgOk_psgReset Config.ymClock hrate
  mfp := mfpOk_mfpReset hrate
  dma := dmaOk_dmaReset hrate
  spt := hspt

theorem one_le_hostRate : 1 ≤ Config.hostRate := by decide

/-- R701: each device's reset writes the values `State.reset` holds, and what SYS_RESET keeps is already as there. -/
theorem reset_sysReset : State.reset.sysReset Config.hostRate = State.reset := rfl

/-- Settles O50: the reset state is what SYS_RESET makes of it, and what SYS_RESET makes is sound. -/
theorem resetStateIsSound : Obligations.ResetStateIsSound := by
  have hspt : 1 ≤ State.reset.song.spt := by decide
  have hsound := sound_sysReset one_le_hostRate hspt
  have hexec := exec_sysReset one_le_hostRate State.reset
  rw [reset_sysReset] at hsound hexec
  exact ⟨hsound, hexec⟩

end Sys2Proof.Machine
